-- ==== Sys2Proof/Word.lean ====
section
/-! DEFINITION. The machine's word types (rule R9): `u8`, `u16`, the 14-bit PPU address, the 15-bit loopy register. -/

namespace Sys2Proof

/-- `u8`: every datum of the machine (rule R76). -/
abbrev Byte := BitVec 8

/-- `u16`: a CPU address (rule R70). -/
abbrev Addr := BitVec 16

/-- A PPU address, 0x0000 to 0x3FFF (rule R70). -/
abbrev PpuAddr := BitVec 14

/-- `u15`: a loopy register (rule R40). -/
abbrev Loopy := BitVec 15

end Sys2Proof
end

