-- ==== Sys2Proof/Machine/Bits.lean ====
section
/-! DEFINITION. Bit-field and byte-order helpers (rule R9). -/

namespace Sys2Proof.Machine

/-- `{h, l}`: the word with high byte `h` and low byte `l`. -/
def cat (h l : Byte) : Addr := h ++ l

/-- `hi(w) = w[15:8]`. -/
def hi (w : Addr) : Byte := w.extractLsb' 8 8

/-- `lo(w) = w[7:0]`. -/
def lo (w : Addr) : Byte := w.extractLsb' 0 8

/-- `zext_16(b)`. -/
def zext (b : Byte) : Addr := b.setWidth 16

/-- `sext_16(b)`. -/
def sext (b : Byte) : Addr := b.signExtend 16

/-- A condition as the number 1 or 0. -/
def bitNat (b : Bool) : Nat := if b then 1 else 0

/-- `v` with bit `i` replaced by `b`. -/
def withBit {w : Nat} (v : BitVec w) (i : Nat) (b : Bool) : BitVec w :=
  if b then v ||| (1#w <<< i) else v &&& ~~~(1#w <<< i)

/-- `v` with the `n`-bit field whose lowest bit is bit `pos` replaced by `x`; the other bits keep their value
(rule R40: mutating one sub-field must not disturb the others). -/
def putField {w n : Nat} (v : BitVec w) (pos : Nat) (x : BitVec n) : BitVec w :=
  (v &&& ~~~((BitVec.allOnes n).setWidth w <<< pos)) ||| (x.setWidth w <<< pos)

/-- `Reverse8` (rule R357): bit k of the result is bit 7 - k of `b`. -/
def reverse8 (b : Byte) : Byte := b.reverse

end Sys2Proof.Machine
end

