-- ==== Sys2Proof/Syntax.lean ====
section
/-! DEFINITION. The instruction set as syntax: the 76 mnemonics, the twelve addressing modes, an operand in each mode,
and one constructor of `Instr` per row of spec/opcode_table.json (256 rows, one per opcode byte, rule R114). -/

namespace Sys2Proof

/-- The mnemonics of rules R114 and R121, spelled as spec/opcode_table.json spells them. -/
inductive Mnemonic where
  | ADC | AHX | ALR | ANC | AND | ARR | ASL | AXS | BCC | BCS | BEQ | BIT
  | BMI | BNE | BPL | BRK | BVC | BVS | CLC | CLD | CLI | CLV | CMP | CPX
  | CPY | DCP | DEC | DEX | DEY | EOR | INC | INX | INY | ISC | JMP | JSR
  | KIL | LAS | LAX | LDA | LDX | LDY | LSR | LXA | NOP | ORA | PHA | PHP
  | PLA | PLP | RLA | ROL | ROR | RRA | RTI | RTS | SAX | SBC | SEC | SED
  | SEI | SHX | SHY | SLO | SRE | STA | STX | STY | TAS | TAX | TAY | TSX
  | TXA | TXS | TYA | XAA
  deriving DecidableEq, Repr

/-- The twelve addressing modes of rule R111. -/
inductive Mode where
  | IMP | IMM | ZP0 | ZPX | ZPY | REL | IZX | IZY | IND | ABS | ABX | ABY
  deriving DecidableEq, Repr

/-- An operand with its mode: the operand bytes as rule R112 assembles them (`d` the one operand byte, `a` the word
`{byte2, byte1}`). -/
inductive Operand where
  | imp
  | imm (d : Byte)
  | zp0 (d : Byte)
  | zpx (d : Byte)
  | zpy (d : Byte)
  | rel (d : Byte)
  | izx (d : Byte)
  | izy (d : Byte)
  | ind (a : Addr)
  | abs (a : Addr)
  | abx (a : Addr)
  | aby (a : Addr)
  deriving DecidableEq, Repr

/-- The mode an operand is in. -/
def Operand.mode : Operand → Mode
  | .imp => .IMP
  | .imm _ => .IMM
  | .zp0 _ => .ZP0
  | .zpx _ => .ZPX
  | .zpy _ => .ZPY
  | .rel _ => .REL
  | .izx _ => .IZX
  | .izy _ => .IZY
  | .ind _ => .IND
  | .abs _ => .ABS
  | .abx _ => .ABX
  | .aby _ => .ABY

/-- The operand bytes as one number. -/
def Operand.value : Operand → Nat
  | .imp => 0
  | .imm x => x.toNat
  | .zp0 x => x.toNat
  | .zpx x => x.toNat
  | .zpy x => x.toNat
  | .rel x => x.toNat
  | .izx x => x.toNat
  | .izy x => x.toNat
  | .ind x => x.toNat
  | .abs x => x.toNat
  | .abx x => x.toNat
  | .aby x => x.toNat

/-- The instructions: one constructor per row of the opcode table, first those with operand bytes, then those of mode
IMP, each in opcode order. Where several opcodes share mnemonic and mode, the constructor's name ends in the opcode
byte. -/
inductive Instr where
  | oraIzx (d : Byte)
  | sloIzx (d : Byte)
  | nopZp004 (d : Byte)
  | oraZp0 (d : Byte)
  | aslZp0 (d : Byte)
  | sloZp0 (d : Byte)
  | oraImm (d : Byte)
  | ancImm0B (d : Byte)
  | nopAbs (a : Addr)
  | oraAbs (a : Addr)
  | aslAbs (a : Addr)
  | sloAbs (a : Addr)
  | bplRel (d : Byte)
  | oraIzy (d : Byte)
  | sloIzy (d : Byte)
  | nopZpx14 (d : Byte)
  | oraZpx (d : Byte)
  | aslZpx (d : Byte)
  | sloZpx (d : Byte)
  | oraAby (a : Addr)
  | sloAby (a : Addr)
  | nopAbx1C (a : Addr)
  | oraAbx (a : Addr)
  | aslAbx (a : Addr)
  | sloAbx (a : Addr)
  | jsrAbs (a : Addr)
  | andIzx (d : Byte)
  | rlaIzx (d : Byte)
  | bitZp0 (d : Byte)
  | andZp0 (d : Byte)
  | rolZp0 (d : Byte)
  | rlaZp0 (d : Byte)
  | andImm (d : Byte)
  | ancImm2B (d : Byte)
  | bitAbs (a : Addr)
  | andAbs (a : Addr)
  | rolAbs (a : Addr)
  | rlaAbs (a : Addr)
  | bmiRel (d : Byte)
  | andIzy (d : Byte)
  | rlaIzy (d : Byte)
  | nopZpx34 (d : Byte)
  | andZpx (d : Byte)
  | rolZpx (d : Byte)
  | rlaZpx (d : Byte)
  | andAby (a : Addr)
  | rlaAby (a : Addr)
  | nopAbx3C (a : Addr)
  | andAbx (a : Addr)
  | rolAbx (a : Addr)
  | rlaAbx (a : Addr)
  | eorIzx (d : Byte)
  | sreIzx (d : Byte)
  | nopZp044 (d : Byte)
  | eorZp0 (d : Byte)
  | lsrZp0 (d : Byte)
  | sreZp0 (d : Byte)
  | eorImm (d : Byte)
  | alrImm (d : Byte)
  | jmpAbs (a : Addr)
  | eorAbs (a : Addr)
  | lsrAbs (a : Addr)
  | sreAbs (a : Addr)
  | bvcRel (d : Byte)
  | eorIzy (d : Byte)
  | sreIzy (d : Byte)
  | nopZpx54 (d : Byte)
  | eorZpx (d : Byte)
  | lsrZpx (d : Byte)
  | sreZpx (d : Byte)
  | eorAby (a : Addr)
  | sreAby (a : Addr)
  | nopAbx5C (a : Addr)
  | eorAbx (a : Addr)
  | lsrAbx (a : Addr)
  | sreAbx (a : Addr)
  | adcIzx (d : Byte)
  | rraIzx (d : Byte)
  | nopZp064 (d : Byte)
  | adcZp0 (d : Byte)
  | rorZp0 (d : Byte)
  | rraZp0 (d : Byte)
  | adcImm (d : Byte)
  | arrImm (d : Byte)
  | jmpInd (a : Addr)
  | adcAbs (a : Addr)
  | rorAbs (a : Addr)
  | rraAbs (a : Addr)
  | bvsRel (d : Byte)
  | adcIzy (d : Byte)
  | rraIzy (d : Byte)
  | nopZpx74 (d : Byte)
  | adcZpx (d : Byte)
  | rorZpx (d : Byte)
  | rraZpx (d : Byte)
  | adcAby (a : Addr)
  | rraAby (a : Addr)
  | nopAbx7C (a : Addr)
  | adcAbx (a : Addr)
  | rorAbx (a : Addr)
  | rraAbx (a : Addr)
  | nopImm80 (d : Byte)
  | staIzx (d : Byte)
  | nopImm82 (d : Byte)
  | saxIzx (d : Byte)
  | styZp0 (d : Byte)
  | staZp0 (d : Byte)
  | stxZp0 (d : Byte)
  | saxZp0 (d : Byte)
  | nopImm89 (d : Byte)
  | xaaImm (d : Byte)
  | styAbs (a : Addr)
  | staAbs (a : Addr)
  | stxAbs (a : Addr)
  | saxAbs (a : Addr)
  | bccRel (d : Byte)
  | staIzy (d : Byte)
  | ahxIzy (d : Byte)
  | styZpx (d : Byte)
  | staZpx (d : Byte)
  | stxZpy (d : Byte)
  | saxZpy (d : Byte)
  | staAby (a : Addr)
  | tasAby (a : Addr)
  | shyAbx (a : Addr)
  | staAbx (a : Addr)
  | shxAby (a : Addr)
  | ahxAby (a : Addr)
  | ldyImm (d : Byte)
  | ldaIzx (d : Byte)
  | ldxImm (d : Byte)
  | laxIzx (d : Byte)
  | ldyZp0 (d : Byte)
  | ldaZp0 (d : Byte)
  | ldxZp0 (d : Byte)
  | laxZp0 (d : Byte)
  | ldaImm (d : Byte)
  | lxaImm (d : Byte)
  | ldyAbs (a : Addr)
  | ldaAbs (a : Addr)
  | ldxAbs (a : Addr)
  | laxAbs (a : Addr)
  | bcsRel (d : Byte)
  | ldaIzy (d : Byte)
  | laxIzy (d : Byte)
  | ldyZpx (d : Byte)
  | ldaZpx (d : Byte)
  | ldxZpy (d : Byte)
  | laxZpy (d : Byte)
  | ldaAby (a : Addr)
  | lasAby (a : Addr)
  | ldyAbx (a : Addr)
  | ldaAbx (a : Addr)
  | ldxAby (a : Addr)
  | laxAby (a : Addr)
  | cpyImm (d : Byte)
  | cmpIzx (d : Byte)
  | nopImmC2 (d : Byte)
  | dcpIzx (d : Byte)
  | cpyZp0 (d : Byte)
  | cmpZp0 (d : Byte)
  | decZp0 (d : Byte)
  | dcpZp0 (d : Byte)
  | cmpImm (d : Byte)
  | axsImm (d : Byte)
  | cpyAbs (a : Addr)
  | cmpAbs (a : Addr)
  | decAbs (a : Addr)
  | dcpAbs (a : Addr)
  | bneRel (d : Byte)
  | cmpIzy (d : Byte)
  | dcpIzy (d : Byte)
  | nopZpxD4 (d : Byte)
  | cmpZpx (d : Byte)
  | decZpx (d : Byte)
  | dcpZpx (d : Byte)
  | cmpAby (a : Addr)
  | dcpAby (a : Addr)
  | nopAbxDC (a : Addr)
  | cmpAbx (a : Addr)
  | decAbx (a : Addr)
  | dcpAbx (a : Addr)
  | cpxImm (d : Byte)
  | sbcIzx (d : Byte)
  | nopImmE2 (d : Byte)
  | iscIzx (d : Byte)
  | cpxZp0 (d : Byte)
  | sbcZp0 (d : Byte)
  | incZp0 (d : Byte)
  | iscZp0 (d : Byte)
  | sbcImm (d : Byte)
  | sbcImmEB (d : Byte)
  | cpxAbs (a : Addr)
  | sbcAbs (a : Addr)
  | incAbs (a : Addr)
  | iscAbs (a : Addr)
  | beqRel (d : Byte)
  | sbcIzy (d : Byte)
  | iscIzy (d : Byte)
  | nopZpxF4 (d : Byte)
  | sbcZpx (d : Byte)
  | incZpx (d : Byte)
  | iscZpx (d : Byte)
  | sbcAby (a : Addr)
  | iscAby (a : Addr)
  | nopAbxFC (a : Addr)
  | sbcAbx (a : Addr)
  | incAbx (a : Addr)
  | iscAbx (a : Addr)
  | brkImp
  | kilImp02
  | phpImp
  | aslImp
  | kilImp12
  | clcImp
  | nopImp1A
  | kilImp22
  | plpImp
  | rolImp
  | kilImp32
  | secImp
  | nopImp3A
  | rtiImp
  | kilImp42
  | phaImp
  | lsrImp
  | kilImp52
  | cliImp
  | nopImp5A
  | rtsImp
  | kilImp62
  | plaImp
  | rorImp
  | kilImp72
  | seiImp
  | nopImp7A
  | deyImp
  | txaImp
  | kilImp92
  | tyaImp
  | txsImp
  | tayImp
  | taxImp
  | kilImpB2
  | clvImp
  | tsxImp
  | inyImp
  | dexImp
  | kilImpD2
  | cldImp
  | nopImpDA
  | inxImp
  | nopImp
  | kilImpF2
  | sedImp
  | nopImpFA
  deriving DecidableEq, Repr

/-- The mnemonic of an instruction. -/
def Instr.mnem : Instr → Mnemonic
  | .oraIzx _ => .ORA
  | .sloIzx _ => .SLO
  | .nopZp004 _ => .NOP
  | .oraZp0 _ => .ORA
  | .aslZp0 _ => .ASL
  | .sloZp0 _ => .SLO
  | .oraImm _ => .ORA
  | .ancImm0B _ => .ANC
  | .nopAbs _ => .NOP
  | .oraAbs _ => .ORA
  | .aslAbs _ => .ASL
  | .sloAbs _ => .SLO
  | .bplRel _ => .BPL
  | .oraIzy _ => .ORA
  | .sloIzy _ => .SLO
  | .nopZpx14 _ => .NOP
  | .oraZpx _ => .ORA
  | .aslZpx _ => .ASL
  | .sloZpx _ => .SLO
  | .oraAby _ => .ORA
  | .sloAby _ => .SLO
  | .nopAbx1C _ => .NOP
  | .oraAbx _ => .ORA
  | .aslAbx _ => .ASL
  | .sloAbx _ => .SLO
  | .jsrAbs _ => .JSR
  | .andIzx _ => .AND
  | .rlaIzx _ => .RLA
  | .bitZp0 _ => .BIT
  | .andZp0 _ => .AND
  | .rolZp0 _ => .ROL
  | .rlaZp0 _ => .RLA
  | .andImm _ => .AND
  | .ancImm2B _ => .ANC
  | .bitAbs _ => .BIT
  | .andAbs _ => .AND
  | .rolAbs _ => .ROL
  | .rlaAbs _ => .RLA
  | .bmiRel _ => .BMI
  | .andIzy _ => .AND
  | .rlaIzy _ => .RLA
  | .nopZpx34 _ => .NOP
  | .andZpx _ => .AND
  | .rolZpx _ => .ROL
  | .rlaZpx _ => .RLA
  | .andAby _ => .AND
  | .rlaAby _ => .RLA
  | .nopAbx3C _ => .NOP
  | .andAbx _ => .AND
  | .rolAbx _ => .ROL
  | .rlaAbx _ => .RLA
  | .eorIzx _ => .EOR
  | .sreIzx _ => .SRE
  | .nopZp044 _ => .NOP
  | .eorZp0 _ => .EOR
  | .lsrZp0 _ => .LSR
  | .sreZp0 _ => .SRE
  | .eorImm _ => .EOR
  | .alrImm _ => .ALR
  | .jmpAbs _ => .JMP
  | .eorAbs _ => .EOR
  | .lsrAbs _ => .LSR
  | .sreAbs _ => .SRE
  | .bvcRel _ => .BVC
  | .eorIzy _ => .EOR
  | .sreIzy _ => .SRE
  | .nopZpx54 _ => .NOP
  | .eorZpx _ => .EOR
  | .lsrZpx _ => .LSR
  | .sreZpx _ => .SRE
  | .eorAby _ => .EOR
  | .sreAby _ => .SRE
  | .nopAbx5C _ => .NOP
  | .eorAbx _ => .EOR
  | .lsrAbx _ => .LSR
  | .sreAbx _ => .SRE
  | .adcIzx _ => .ADC
  | .rraIzx _ => .RRA
  | .nopZp064 _ => .NOP
  | .adcZp0 _ => .ADC
  | .rorZp0 _ => .ROR
  | .rraZp0 _ => .RRA
  | .adcImm _ => .ADC
  | .arrImm _ => .ARR
  | .jmpInd _ => .JMP
  | .adcAbs _ => .ADC
  | .rorAbs _ => .ROR
  | .rraAbs _ => .RRA
  | .bvsRel _ => .BVS
  | .adcIzy _ => .ADC
  | .rraIzy _ => .RRA
  | .nopZpx74 _ => .NOP
  | .adcZpx _ => .ADC
  | .rorZpx _ => .ROR
  | .rraZpx _ => .RRA
  | .adcAby _ => .ADC
  | .rraAby _ => .RRA
  | .nopAbx7C _ => .NOP
  | .adcAbx _ => .ADC
  | .rorAbx _ => .ROR
  | .rraAbx _ => .RRA
  | .nopImm80 _ => .NOP
  | .staIzx _ => .STA
  | .nopImm82 _ => .NOP
  | .saxIzx _ => .SAX
  | .styZp0 _ => .STY
  | .staZp0 _ => .STA
  | .stxZp0 _ => .STX
  | .saxZp0 _ => .SAX
  | .nopImm89 _ => .NOP
  | .xaaImm _ => .XAA
  | .styAbs _ => .STY
  | .staAbs _ => .STA
  | .stxAbs _ => .STX
  | .saxAbs _ => .SAX
  | .bccRel _ => .BCC
  | .staIzy _ => .STA
  | .ahxIzy _ => .AHX
  | .styZpx _ => .STY
  | .staZpx _ => .STA
  | .stxZpy _ => .STX
  | .saxZpy _ => .SAX
  | .staAby _ => .STA
  | .tasAby _ => .TAS
  | .shyAbx _ => .SHY
  | .staAbx _ => .STA
  | .shxAby _ => .SHX
  | .ahxAby _ => .AHX
  | .ldyImm _ => .LDY
  | .ldaIzx _ => .LDA
  | .ldxImm _ => .LDX
  | .laxIzx _ => .LAX
  | .ldyZp0 _ => .LDY
  | .ldaZp0 _ => .LDA
  | .ldxZp0 _ => .LDX
  | .laxZp0 _ => .LAX
  | .ldaImm _ => .LDA
  | .lxaImm _ => .LXA
  | .ldyAbs _ => .LDY
  | .ldaAbs _ => .LDA
  | .ldxAbs _ => .LDX
  | .laxAbs _ => .LAX
  | .bcsRel _ => .BCS
  | .ldaIzy _ => .LDA
  | .laxIzy _ => .LAX
  | .ldyZpx _ => .LDY
  | .ldaZpx _ => .LDA
  | .ldxZpy _ => .LDX
  | .laxZpy _ => .LAX
  | .ldaAby _ => .LDA
  | .lasAby _ => .LAS
  | .ldyAbx _ => .LDY
  | .ldaAbx _ => .LDA
  | .ldxAby _ => .LDX
  | .laxAby _ => .LAX
  | .cpyImm _ => .CPY
  | .cmpIzx _ => .CMP
  | .nopImmC2 _ => .NOP
  | .dcpIzx _ => .DCP
  | .cpyZp0 _ => .CPY
  | .cmpZp0 _ => .CMP
  | .decZp0 _ => .DEC
  | .dcpZp0 _ => .DCP
  | .cmpImm _ => .CMP
  | .axsImm _ => .AXS
  | .cpyAbs _ => .CPY
  | .cmpAbs _ => .CMP
  | .decAbs _ => .DEC
  | .dcpAbs _ => .DCP
  | .bneRel _ => .BNE
  | .cmpIzy _ => .CMP
  | .dcpIzy _ => .DCP
  | .nopZpxD4 _ => .NOP
  | .cmpZpx _ => .CMP
  | .decZpx _ => .DEC
  | .dcpZpx _ => .DCP
  | .cmpAby _ => .CMP
  | .dcpAby _ => .DCP
  | .nopAbxDC _ => .NOP
  | .cmpAbx _ => .CMP
  | .decAbx _ => .DEC
  | .dcpAbx _ => .DCP
  | .cpxImm _ => .CPX
  | .sbcIzx _ => .SBC
  | .nopImmE2 _ => .NOP
  | .iscIzx _ => .ISC
  | .cpxZp0 _ => .CPX
  | .sbcZp0 _ => .SBC
  | .incZp0 _ => .INC
  | .iscZp0 _ => .ISC
  | .sbcImm _ => .SBC
  | .sbcImmEB _ => .SBC
  | .cpxAbs _ => .CPX
  | .sbcAbs _ => .SBC
  | .incAbs _ => .INC
  | .iscAbs _ => .ISC
  | .beqRel _ => .BEQ
  | .sbcIzy _ => .SBC
  | .iscIzy _ => .ISC
  | .nopZpxF4 _ => .NOP
  | .sbcZpx _ => .SBC
  | .incZpx _ => .INC
  | .iscZpx _ => .ISC
  | .sbcAby _ => .SBC
  | .iscAby _ => .ISC
  | .nopAbxFC _ => .NOP
  | .sbcAbx _ => .SBC
  | .incAbx _ => .INC
  | .iscAbx _ => .ISC
  | .brkImp => .BRK
  | .kilImp02 => .KIL
  | .phpImp => .PHP
  | .aslImp => .ASL
  | .kilImp12 => .KIL
  | .clcImp => .CLC
  | .nopImp1A => .NOP
  | .kilImp22 => .KIL
  | .plpImp => .PLP
  | .rolImp => .ROL
  | .kilImp32 => .KIL
  | .secImp => .SEC
  | .nopImp3A => .NOP
  | .rtiImp => .RTI
  | .kilImp42 => .KIL
  | .phaImp => .PHA
  | .lsrImp => .LSR
  | .kilImp52 => .KIL
  | .cliImp => .CLI
  | .nopImp5A => .NOP
  | .rtsImp => .RTS
  | .kilImp62 => .KIL
  | .plaImp => .PLA
  | .rorImp => .ROR
  | .kilImp72 => .KIL
  | .seiImp => .SEI
  | .nopImp7A => .NOP
  | .deyImp => .DEY
  | .txaImp => .TXA
  | .kilImp92 => .KIL
  | .tyaImp => .TYA
  | .txsImp => .TXS
  | .tayImp => .TAY
  | .taxImp => .TAX
  | .kilImpB2 => .KIL
  | .clvImp => .CLV
  | .tsxImp => .TSX
  | .inyImp => .INY
  | .dexImp => .DEX
  | .kilImpD2 => .KIL
  | .cldImp => .CLD
  | .nopImpDA => .NOP
  | .inxImp => .INX
  | .nopImp => .NOP
  | .kilImpF2 => .KIL
  | .sedImp => .SED
  | .nopImpFA => .NOP

/-- The operand of an instruction, in its mode. -/
def Instr.operand : Instr → Operand
  | .brkImp => .imp
  | .oraIzx d => .izx d
  | .kilImp02 => .imp
  | .sloIzx d => .izx d
  | .nopZp004 d => .zp0 d
  | .oraZp0 d => .zp0 d
  | .aslZp0 d => .zp0 d
  | .sloZp0 d => .zp0 d
  | .phpImp => .imp
  | .oraImm d => .imm d
  | .aslImp => .imp
  | .ancImm0B d => .imm d
  | .nopAbs a => .abs a
  | .oraAbs a => .abs a
  | .aslAbs a => .abs a
  | .sloAbs a => .abs a
  | .bplRel d => .rel d
  | .oraIzy d => .izy d
  | .kilImp12 => .imp
  | .sloIzy d => .izy d
  | .nopZpx14 d => .zpx d
  | .oraZpx d => .zpx d
  | .aslZpx d => .zpx d
  | .sloZpx d => .zpx d
  | .clcImp => .imp
  | .oraAby a => .aby a
  | .nopImp1A => .imp
  | .sloAby a => .aby a
  | .nopAbx1C a => .abx a
  | .oraAbx a => .abx a
  | .aslAbx a => .abx a
  | .sloAbx a => .abx a
  | .jsrAbs a => .abs a
  | .andIzx d => .izx d
  | .kilImp22 => .imp
  | .rlaIzx d => .izx d
  | .bitZp0 d => .zp0 d
  | .andZp0 d => .zp0 d
  | .rolZp0 d => .zp0 d
  | .rlaZp0 d => .zp0 d
  | .plpImp => .imp
  | .andImm d => .imm d
  | .rolImp => .imp
  | .ancImm2B d => .imm d
  | .bitAbs a => .abs a
  | .andAbs a => .abs a
  | .rolAbs a => .abs a
  | .rlaAbs a => .abs a
  | .bmiRel d => .rel d
  | .andIzy d => .izy d
  | .kilImp32 => .imp
  | .rlaIzy d => .izy d
  | .nopZpx34 d => .zpx d
  | .andZpx d => .zpx d
  | .rolZpx d => .zpx d
  | .rlaZpx d => .zpx d
  | .secImp => .imp
  | .andAby a => .aby a
  | .nopImp3A => .imp
  | .rlaAby a => .aby a
  | .nopAbx3C a => .abx a
  | .andAbx a => .abx a
  | .rolAbx a => .abx a
  | .rlaAbx a => .abx a
  | .rtiImp => .imp
  | .eorIzx d => .izx d
  | .kilImp42 => .imp
  | .sreIzx d => .izx d
  | .nopZp044 d => .zp0 d
  | .eorZp0 d => .zp0 d
  | .lsrZp0 d => .zp0 d
  | .sreZp0 d => .zp0 d
  | .phaImp => .imp
  | .eorImm d => .imm d
  | .lsrImp => .imp
  | .alrImm d => .imm d
  | .jmpAbs a => .abs a
  | .eorAbs a => .abs a
  | .lsrAbs a => .abs a
  | .sreAbs a => .abs a
  | .bvcRel d => .rel d
  | .eorIzy d => .izy d
  | .kilImp52 => .imp
  | .sreIzy d => .izy d
  | .nopZpx54 d => .zpx d
  | .eorZpx d => .zpx d
  | .lsrZpx d => .zpx d
  | .sreZpx d => .zpx d
  | .cliImp => .imp
  | .eorAby a => .aby a
  | .nopImp5A => .imp
  | .sreAby a => .aby a
  | .nopAbx5C a => .abx a
  | .eorAbx a => .abx a
  | .lsrAbx a => .abx a
  | .sreAbx a => .abx a
  | .rtsImp => .imp
  | .adcIzx d => .izx d
  | .kilImp62 => .imp
  | .rraIzx d => .izx d
  | .nopZp064 d => .zp0 d
  | .adcZp0 d => .zp0 d
  | .rorZp0 d => .zp0 d
  | .rraZp0 d => .zp0 d
  | .plaImp => .imp
  | .adcImm d => .imm d
  | .rorImp => .imp
  | .arrImm d => .imm d
  | .jmpInd a => .ind a
  | .adcAbs a => .abs a
  | .rorAbs a => .abs a
  | .rraAbs a => .abs a
  | .bvsRel d => .rel d
  | .adcIzy d => .izy d
  | .kilImp72 => .imp
  | .rraIzy d => .izy d
  | .nopZpx74 d => .zpx d
  | .adcZpx d => .zpx d
  | .rorZpx d => .zpx d
  | .rraZpx d => .zpx d
  | .seiImp => .imp
  | .adcAby a => .aby a
  | .nopImp7A => .imp
  | .rraAby a => .aby a
  | .nopAbx7C a => .abx a
  | .adcAbx a => .abx a
  | .rorAbx a => .abx a
  | .rraAbx a => .abx a
  | .nopImm80 d => .imm d
  | .staIzx d => .izx d
  | .nopImm82 d => .imm d
  | .saxIzx d => .izx d
  | .styZp0 d => .zp0 d
  | .staZp0 d => .zp0 d
  | .stxZp0 d => .zp0 d
  | .saxZp0 d => .zp0 d
  | .deyImp => .imp
  | .nopImm89 d => .imm d
  | .txaImp => .imp
  | .xaaImm d => .imm d
  | .styAbs a => .abs a
  | .staAbs a => .abs a
  | .stxAbs a => .abs a
  | .saxAbs a => .abs a
  | .bccRel d => .rel d
  | .staIzy d => .izy d
  | .kilImp92 => .imp
  | .ahxIzy d => .izy d
  | .styZpx d => .zpx d
  | .staZpx d => .zpx d
  | .stxZpy d => .zpy d
  | .saxZpy d => .zpy d
  | .tyaImp => .imp
  | .staAby a => .aby a
  | .txsImp => .imp
  | .tasAby a => .aby a
  | .shyAbx a => .abx a
  | .staAbx a => .abx a
  | .shxAby a => .aby a
  | .ahxAby a => .aby a
  | .ldyImm d => .imm d
  | .ldaIzx d => .izx d
  | .ldxImm d => .imm d
  | .laxIzx d => .izx d
  | .ldyZp0 d => .zp0 d
  | .ldaZp0 d => .zp0 d
  | .ldxZp0 d => .zp0 d
  | .laxZp0 d => .zp0 d
  | .tayImp => .imp
  | .ldaImm d => .imm d
  | .taxImp => .imp
  | .lxaImm d => .imm d
  | .ldyAbs a => .abs a
  | .ldaAbs a => .abs a
  | .ldxAbs a => .abs a
  | .laxAbs a => .abs a
  | .bcsRel d => .rel d
  | .ldaIzy d => .izy d
  | .kilImpB2 => .imp
  | .laxIzy d => .izy d
  | .ldyZpx d => .zpx d
  | .ldaZpx d => .zpx d
  | .ldxZpy d => .zpy d
  | .laxZpy d => .zpy d
  | .clvImp => .imp
  | .ldaAby a => .aby a
  | .tsxImp => .imp
  | .lasAby a => .aby a
  | .ldyAbx a => .abx a
  | .ldaAbx a => .abx a
  | .ldxAby a => .aby a
  | .laxAby a => .aby a
  | .cpyImm d => .imm d
  | .cmpIzx d => .izx d
  | .nopImmC2 d => .imm d
  | .dcpIzx d => .izx d
  | .cpyZp0 d => .zp0 d
  | .cmpZp0 d => .zp0 d
  | .decZp0 d => .zp0 d
  | .dcpZp0 d => .zp0 d
  | .inyImp => .imp
  | .cmpImm d => .imm d
  | .dexImp => .imp
  | .axsImm d => .imm d
  | .cpyAbs a => .abs a
  | .cmpAbs a => .abs a
  | .decAbs a => .abs a
  | .dcpAbs a => .abs a
  | .bneRel d => .rel d
  | .cmpIzy d => .izy d
  | .kilImpD2 => .imp
  | .dcpIzy d => .izy d
  | .nopZpxD4 d => .zpx d
  | .cmpZpx d => .zpx d
  | .decZpx d => .zpx d
  | .dcpZpx d => .zpx d
  | .cldImp => .imp
  | .cmpAby a => .aby a
  | .nopImpDA => .imp
  | .dcpAby a => .aby a
  | .nopAbxDC a => .abx a
  | .cmpAbx a => .abx a
  | .decAbx a => .abx a
  | .dcpAbx a => .abx a
  | .cpxImm d => .imm d
  | .sbcIzx d => .izx d
  | .nopImmE2 d => .imm d
  | .iscIzx d => .izx d
  | .cpxZp0 d => .zp0 d
  | .sbcZp0 d => .zp0 d
  | .incZp0 d => .zp0 d
  | .iscZp0 d => .zp0 d
  | .inxImp => .imp
  | .sbcImm d => .imm d
  | .nopImp => .imp
  | .sbcImmEB d => .imm d
  | .cpxAbs a => .abs a
  | .sbcAbs a => .abs a
  | .incAbs a => .abs a
  | .iscAbs a => .abs a
  | .beqRel d => .rel d
  | .sbcIzy d => .izy d
  | .kilImpF2 => .imp
  | .iscIzy d => .izy d
  | .nopZpxF4 d => .zpx d
  | .sbcZpx d => .zpx d
  | .incZpx d => .zpx d
  | .iscZpx d => .zpx d
  | .sedImp => .imp
  | .sbcAby a => .aby a
  | .nopImpFA => .imp
  | .iscAby a => .aby a
  | .nopAbxFC a => .abx a
  | .sbcAbx a => .abx a
  | .incAbx a => .abx a
  | .iscAbx a => .abx a

/-- The addressing mode of an instruction. -/
def Instr.mode (i : Instr) : Mode := i.operand.mode

end Sys2Proof
end

