-- ==== Sys2Proof/WellFormed.lean ====
section
/-! DEFINITION. Which mnemonic exists in which addressing modes, read from the *Operands* line of each instruction rule
(files 41 to 46 of spec/), the check of an instruction as an assembler would be given it, and well-formedness of `Instr`. -/

namespace Sys2Proof

/-- How many operand bytes a mode has (rules R110, R113). -/
def Mode.operandBytes : Mode → Nat
  | .IMP => 0
  | .IMM | .ZP0 | .ZPX | .ZPY | .REL | .IZX | .IZY => 1
  | .IND | .ABS | .ABX | .ABY => 2

/-- The modes each mnemonic exists in: the *Operands* lines of rules R150 to R161 (loads, stores, transfers), R170 to
R184 (arithmetic), R201 to R204 (shifts), R210 to R223 (control), R230 to R241 (stack, flags) and R251 to R280
(undocumented; NOP and SBC join their documented forms of rules R241 and R171). -/
def Mnemonic.modes : Mnemonic → List Mode
  | .LDA => [.IMM, .ZP0, .ZPX, .ABS, .ABX, .ABY, .IZX, .IZY]
  | .LDX => [.IMM, .ZP0, .ZPY, .ABS, .ABY]
  | .LDY => [.IMM, .ZP0, .ZPX, .ABS, .ABX]
  | .STA => [.ZP0, .ZPX, .ABS, .ABX, .ABY, .IZX, .IZY]
  | .STX => [.ZP0, .ZPY, .ABS]
  | .STY => [.ZP0, .ZPX, .ABS]
  | .ADC | .SBC | .AND | .ORA | .EOR | .CMP => [.IMM, .ZP0, .ZPX, .ABS, .ABX, .ABY, .IZX, .IZY]
  | .CPX | .CPY => [.IMM, .ZP0, .ABS]
  | .BIT => [.ZP0, .ABS]
  | .INC | .DEC => [.ZP0, .ZPX, .ABS, .ABX]
  | .ASL | .LSR | .ROL | .ROR => [.IMP, .ZP0, .ZPX, .ABS, .ABX]
  | .JMP => [.ABS, .IND]
  | .JSR => [.ABS]
  | .BPL | .BMI | .BVC | .BVS | .BCC | .BCS | .BNE | .BEQ => [.REL]
  | .SLO | .RLA | .SRE | .RRA | .DCP | .ISC => [.IZX, .ZP0, .ZPX, .ABS, .ABX, .ABY, .IZY]
  | .SAX => [.ZP0, .ZPY, .ABS, .IZX]
  | .LAX => [.ZP0, .ZPY, .ABS, .ABY, .IZX, .IZY]
  | .LAS | .SHX | .TAS => [.ABY]
  | .SHY => [.ABX]
  | .AHX => [.ABY, .IZY]
  | .ANC | .ALR | .ARR | .AXS | .XAA | .LXA => [.IMM]
  | .NOP => [.IMP, .IMM, .ZP0, .ZPX, .ABS, .ABX]
  | .TAX | .TAY | .TXA | .TYA | .TSX | .TXS | .INX | .INY | .DEX | .DEY | .RTS | .RTI | .BRK | .PHA | .PHP | .PLA | .PLP
  | .CLC | .SEC | .CLI | .SEI | .CLV | .CLD | .SED | .KIL => [.IMP]

/-- An instruction as an assembler is given it (rules R111, R120): a mnemonic, a mode and an operand that is any number. -/
structure Source where
  mnem : Mnemonic
  mode : Mode
  operand : Nat
  deriving DecidableEq, Repr

/-- The two checks on a source instruction: the mnemonic exists in that mode, and the operand fits the mode's operand
bytes (none for IMP). -/
def Source.wf (s : Source) : Bool :=
  decide (s.mode ∈ s.mnem.modes) && decide (s.operand < 2 ^ (8 * s.mode.operandBytes))

/-- The source form of an instruction. -/
def Instr.source (i : Instr) : Source := ⟨i.mnem, i.mode, i.operand.value⟩

/-- An instruction is well formed when its source form passes the checks. Every term of `Instr` is (lemma
`Instr.wf_all`): its operand is as wide as its mode, and each constructor is one row of the table. -/
def Instr.wf (i : Instr) : Bool := i.source.wf

end Sys2Proof
end

