-- ==== Sys2Proof/Decode.lean ====
section
/-! DEFINITION. The decoder and the encoder (rules R110 to R114): the opcode byte alone fixes mnemonic, mode and length;
every byte value decodes; a byte list is refused only where it is too short. The encoder is written from the same table. -/

namespace Sys2Proof

open Sys2Proof.Machine

/-- Why a byte list does not decode: nothing to read, or the operand bytes of `op` are missing (rule R113 has no other
verdict: every opcode byte decodes). -/
inductive DecodeError where
  | noOpcode
  | noOperand (op : Byte)
  deriving DecidableEq, Repr

/-- How many operand bytes follow an opcode, with the instruction they complete (rule R110, formats F1, F2, F3). -/
inductive Shape where
  | one (i : Instr)
  | two (f : Byte → Instr)
  | three (f : Addr → Instr)

/-- Row 0x of the opcode matrix (rule R114): the instruction each opcode begins. -/
def shapes0 : List Shape := [
  .one .brkImp, .two .oraIzx, .one .kilImp02, .two .sloIzx,
  .two .nopZp004, .two .oraZp0, .two .aslZp0, .two .sloZp0,
  .one .phpImp, .two .oraImm, .one .aslImp, .two .ancImm0B,
  .three .nopAbs, .three .oraAbs, .three .aslAbs, .three .sloAbs]

/-- Row 1x of the opcode matrix (rule R114): the instruction each opcode begins. -/
def shapes1 : List Shape := [
  .two .bplRel, .two .oraIzy, .one .kilImp12, .two .sloIzy,
  .two .nopZpx14, .two .oraZpx, .two .aslZpx, .two .sloZpx,
  .one .clcImp, .three .oraAby, .one .nopImp1A, .three .sloAby,
  .three .nopAbx1C, .three .oraAbx, .three .aslAbx, .three .sloAbx]

/-- Row 2x of the opcode matrix (rule R114): the instruction each opcode begins. -/
def shapes2 : List Shape := [
  .three .jsrAbs, .two .andIzx, .one .kilImp22, .two .rlaIzx,
  .two .bitZp0, .two .andZp0, .two .rolZp0, .two .rlaZp0,
  .one .plpImp, .two .andImm, .one .rolImp, .two .ancImm2B,
  .three .bitAbs, .three .andAbs, .three .rolAbs, .three .rlaAbs]

/-- Row 3x of the opcode matrix (rule R114): the instruction each opcode begins. -/
def shapes3 : List Shape := [
  .two .bmiRel, .two .andIzy, .one .kilImp32, .two .rlaIzy,
  .two .nopZpx34, .two .andZpx, .two .rolZpx, .two .rlaZpx,
  .one .secImp, .three .andAby, .one .nopImp3A, .three .rlaAby,
  .three .nopAbx3C, .three .andAbx, .three .rolAbx, .three .rlaAbx]

/-- Row 4x of the opcode matrix (rule R114): the instruction each opcode begins. -/
def shapes4 : List Shape := [
  .one .rtiImp, .two .eorIzx, .one .kilImp42, .two .sreIzx,
  .two .nopZp044, .two .eorZp0, .two .lsrZp0, .two .sreZp0,
  .one .phaImp, .two .eorImm, .one .lsrImp, .two .alrImm,
  .three .jmpAbs, .three .eorAbs, .three .lsrAbs, .three .sreAbs]

/-- Row 5x of the opcode matrix (rule R114): the instruction each opcode begins. -/
def shapes5 : List Shape := [
  .two .bvcRel, .two .eorIzy, .one .kilImp52, .two .sreIzy,
  .two .nopZpx54, .two .eorZpx, .two .lsrZpx, .two .sreZpx,
  .one .cliImp, .three .eorAby, .one .nopImp5A, .three .sreAby,
  .three .nopAbx5C, .three .eorAbx, .three .lsrAbx, .three .sreAbx]

/-- Row 6x of the opcode matrix (rule R114): the instruction each opcode begins. -/
def shapes6 : List Shape := [
  .one .rtsImp, .two .adcIzx, .one .kilImp62, .two .rraIzx,
  .two .nopZp064, .two .adcZp0, .two .rorZp0, .two .rraZp0,
  .one .plaImp, .two .adcImm, .one .rorImp, .two .arrImm,
  .three .jmpInd, .three .adcAbs, .three .rorAbs, .three .rraAbs]

/-- Row 7x of the opcode matrix (rule R114): the instruction each opcode begins. -/
def shapes7 : List Shape := [
  .two .bvsRel, .two .adcIzy, .one .kilImp72, .two .rraIzy,
  .two .nopZpx74, .two .adcZpx, .two .rorZpx, .two .rraZpx,
  .one .seiImp, .three .adcAby, .one .nopImp7A, .three .rraAby,
  .three .nopAbx7C, .three .adcAbx, .three .rorAbx, .three .rraAbx]

/-- Row 8x of the opcode matrix (rule R114): the instruction each opcode begins. -/
def shapes8 : List Shape := [
  .two .nopImm80, .two .staIzx, .two .nopImm82, .two .saxIzx,
  .two .styZp0, .two .staZp0, .two .stxZp0, .two .saxZp0,
  .one .deyImp, .two .nopImm89, .one .txaImp, .two .xaaImm,
  .three .styAbs, .three .staAbs, .three .stxAbs, .three .saxAbs]

/-- Row 9x of the opcode matrix (rule R114): the instruction each opcode begins. -/
def shapes9 : List Shape := [
  .two .bccRel, .two .staIzy, .one .kilImp92, .two .ahxIzy,
  .two .styZpx, .two .staZpx, .two .stxZpy, .two .saxZpy,
  .one .tyaImp, .three .staAby, .one .txsImp, .three .tasAby,
  .three .shyAbx, .three .staAbx, .three .shxAby, .three .ahxAby]

/-- Row Ax of the opcode matrix (rule R114): the instruction each opcode begins. -/
def shapesA : List Shape := [
  .two .ldyImm, .two .ldaIzx, .two .ldxImm, .two .laxIzx,
  .two .ldyZp0, .two .ldaZp0, .two .ldxZp0, .two .laxZp0,
  .one .tayImp, .two .ldaImm, .one .taxImp, .two .lxaImm,
  .three .ldyAbs, .three .ldaAbs, .three .ldxAbs, .three .laxAbs]

/-- Row Bx of the opcode matrix (rule R114): the instruction each opcode begins. -/
def shapesB : List Shape := [
  .two .bcsRel, .two .ldaIzy, .one .kilImpB2, .two .laxIzy,
  .two .ldyZpx, .two .ldaZpx, .two .ldxZpy, .two .laxZpy,
  .one .clvImp, .three .ldaAby, .one .tsxImp, .three .lasAby,
  .three .ldyAbx, .three .ldaAbx, .three .ldxAby, .three .laxAby]

/-- Row Cx of the opcode matrix (rule R114): the instruction each opcode begins. -/
def shapesC : List Shape := [
  .two .cpyImm, .two .cmpIzx, .two .nopImmC2, .two .dcpIzx,
  .two .cpyZp0, .two .cmpZp0, .two .decZp0, .two .dcpZp0,
  .one .inyImp, .two .cmpImm, .one .dexImp, .two .axsImm,
  .three .cpyAbs, .three .cmpAbs, .three .decAbs, .three .dcpAbs]

/-- Row Dx of the opcode matrix (rule R114): the instruction each opcode begins. -/
def shapesD : List Shape := [
  .two .bneRel, .two .cmpIzy, .one .kilImpD2, .two .dcpIzy,
  .two .nopZpxD4, .two .cmpZpx, .two .decZpx, .two .dcpZpx,
  .one .cldImp, .three .cmpAby, .one .nopImpDA, .three .dcpAby,
  .three .nopAbxDC, .three .cmpAbx, .three .decAbx, .three .dcpAbx]

/-- Row Ex of the opcode matrix (rule R114): the instruction each opcode begins. -/
def shapesE : List Shape := [
  .two .cpxImm, .two .sbcIzx, .two .nopImmE2, .two .iscIzx,
  .two .cpxZp0, .two .sbcZp0, .two .incZp0, .two .iscZp0,
  .one .inxImp, .two .sbcImm, .one .nopImp, .two .sbcImmEB,
  .three .cpxAbs, .three .sbcAbs, .three .incAbs, .three .iscAbs]

/-- Row Fx of the opcode matrix (rule R114): the instruction each opcode begins. -/
def shapesF : List Shape := [
  .two .beqRel, .two .sbcIzy, .one .kilImpF2, .two .iscIzy,
  .two .nopZpxF4, .two .sbcZpx, .two .incZpx, .two .iscZpx,
  .one .sedImp, .three .sbcAby, .one .nopImpFA, .three .iscAby,
  .three .nopAbxFC, .three .sbcAbx, .three .incAbx, .three .iscAbx]

/-- The opcode matrix of rule R114 as instruction shapes, in opcode order. -/
def shapes : List Shape :=
  shapes0 ++ shapes1 ++ shapes2 ++ shapes3 ++ shapes4 ++ shapes5 ++ shapes6 ++ shapes7 ++
  shapes8 ++ shapes9 ++ shapesA ++ shapesB ++ shapesC ++ shapesD ++ shapesE ++ shapesF

/-- Row 0x of `TABLE` (rule R114): mnemonic, mode, base cycles. -/
def table0 : List (Mnemonic × Mode × Nat) := [
  (.BRK, .IMP, 7), (.ORA, .IZX, 6), (.KIL, .IMP, 2), (.SLO, .IZX, 8),
  (.NOP, .ZP0, 3), (.ORA, .ZP0, 3), (.ASL, .ZP0, 5), (.SLO, .ZP0, 5),
  (.PHP, .IMP, 3), (.ORA, .IMM, 2), (.ASL, .IMP, 2), (.ANC, .IMM, 2),
  (.NOP, .ABS, 4), (.ORA, .ABS, 4), (.ASL, .ABS, 6), (.SLO, .ABS, 6)]

/-- Row 1x of `TABLE` (rule R114): mnemonic, mode, base cycles. -/
def table1 : List (Mnemonic × Mode × Nat) := [
  (.BPL, .REL, 2), (.ORA, .IZY, 5), (.KIL, .IMP, 2), (.SLO, .IZY, 8),
  (.NOP, .ZPX, 4), (.ORA, .ZPX, 4), (.ASL, .ZPX, 6), (.SLO, .ZPX, 6),
  (.CLC, .IMP, 2), (.ORA, .ABY, 4), (.NOP, .IMP, 2), (.SLO, .ABY, 7),
  (.NOP, .ABX, 4), (.ORA, .ABX, 4), (.ASL, .ABX, 7), (.SLO, .ABX, 7)]

/-- Row 2x of `TABLE` (rule R114): mnemonic, mode, base cycles. -/
def table2 : List (Mnemonic × Mode × Nat) := [
  (.JSR, .ABS, 6), (.AND, .IZX, 6), (.KIL, .IMP, 2), (.RLA, .IZX, 8),
  (.BIT, .ZP0, 3), (.AND, .ZP0, 3), (.ROL, .ZP0, 5), (.RLA, .ZP0, 5),
  (.PLP, .IMP, 4), (.AND, .IMM, 2), (.ROL, .IMP, 2), (.ANC, .IMM, 2),
  (.BIT, .ABS, 4), (.AND, .ABS, 4), (.ROL, .ABS, 6), (.RLA, .ABS, 6)]

/-- Row 3x of `TABLE` (rule R114): mnemonic, mode, base cycles. -/
def table3 : List (Mnemonic × Mode × Nat) := [
  (.BMI, .REL, 2), (.AND, .IZY, 5), (.KIL, .IMP, 2), (.RLA, .IZY, 8),
  (.NOP, .ZPX, 4), (.AND, .ZPX, 4), (.ROL, .ZPX, 6), (.RLA, .ZPX, 6),
  (.SEC, .IMP, 2), (.AND, .ABY, 4), (.NOP, .IMP, 2), (.RLA, .ABY, 7),
  (.NOP, .ABX, 4), (.AND, .ABX, 4), (.ROL, .ABX, 7), (.RLA, .ABX, 7)]

/-- Row 4x of `TABLE` (rule R114): mnemonic, mode, base cycles. -/
def table4 : List (Mnemonic × Mode × Nat) := [
  (.RTI, .IMP, 6), (.EOR, .IZX, 6), (.KIL, .IMP, 2), (.SRE, .IZX, 8),
  (.NOP, .ZP0, 3), (.EOR, .ZP0, 3), (.LSR, .ZP0, 5), (.SRE, .ZP0, 5),
  (.PHA, .IMP, 3), (.EOR, .IMM, 2), (.LSR, .IMP, 2), (.ALR, .IMM, 2),
  (.JMP, .ABS, 3), (.EOR, .ABS, 4), (.LSR, .ABS, 6), (.SRE, .ABS, 6)]

/-- Row 5x of `TABLE` (rule R114): mnemonic, mode, base cycles. -/
def table5 : List (Mnemonic × Mode × Nat) := [
  (.BVC, .REL, 2), (.EOR, .IZY, 5), (.KIL, .IMP, 2), (.SRE, .IZY, 8),
  (.NOP, .ZPX, 4), (.EOR, .ZPX, 4), (.LSR, .ZPX, 6), (.SRE, .ZPX, 6),
  (.CLI, .IMP, 2), (.EOR, .ABY, 4), (.NOP, .IMP, 2), (.SRE, .ABY, 7),
  (.NOP, .ABX, 4), (.EOR, .ABX, 4), (.LSR, .ABX, 7), (.SRE, .ABX, 7)]

/-- Row 6x of `TABLE` (rule R114): mnemonic, mode, base cycles. -/
def table6 : List (Mnemonic × Mode × Nat) := [
  (.RTS, .IMP, 6), (.ADC, .IZX, 6), (.KIL, .IMP, 2), (.RRA, .IZX, 8),
  (.NOP, .ZP0, 3), (.ADC, .ZP0, 3), (.ROR, .ZP0, 5), (.RRA, .ZP0, 5),
  (.PLA, .IMP, 4), (.ADC, .IMM, 2), (.ROR, .IMP, 2), (.ARR, .IMM, 2),
  (.JMP, .IND, 5), (.ADC, .ABS, 4), (.ROR, .ABS, 6), (.RRA, .ABS, 6)]

/-- Row 7x of `TABLE` (rule R114): mnemonic, mode, base cycles. -/
def table7 : List (Mnemonic × Mode × Nat) := [
  (.BVS, .REL, 2), (.ADC, .IZY, 5), (.KIL, .IMP, 2), (.RRA, .IZY, 8),
  (.NOP, .ZPX, 4), (.ADC, .ZPX, 4), (.ROR, .ZPX, 6), (.RRA, .ZPX, 6),
  (.SEI, .IMP, 2), (.ADC, .ABY, 4), (.NOP, .IMP, 2), (.RRA, .ABY, 7),
  (.NOP, .ABX, 4), (.ADC, .ABX, 4), (.ROR, .ABX, 7), (.RRA, .ABX, 7)]

/-- Row 8x of `TABLE` (rule R114): mnemonic, mode, base cycles. -/
def table8 : List (Mnemonic × Mode × Nat) := [
  (.NOP, .IMM, 2), (.STA, .IZX, 6), (.NOP, .IMM, 2), (.SAX, .IZX, 6),
  (.STY, .ZP0, 3), (.STA, .ZP0, 3), (.STX, .ZP0, 3), (.SAX, .ZP0, 3),
  (.DEY, .IMP, 2), (.NOP, .IMM, 2), (.TXA, .IMP, 2), (.XAA, .IMM, 2),
  (.STY, .ABS, 4), (.STA, .ABS, 4), (.STX, .ABS, 4), (.SAX, .ABS, 4)]

/-- Row 9x of `TABLE` (rule R114): mnemonic, mode, base cycles. -/
def table9 : List (Mnemonic × Mode × Nat) := [
  (.BCC, .REL, 2), (.STA, .IZY, 6), (.KIL, .IMP, 2), (.AHX, .IZY, 6),
  (.STY, .ZPX, 4), (.STA, .ZPX, 4), (.STX, .ZPY, 4), (.SAX, .ZPY, 4),
  (.TYA, .IMP, 2), (.STA, .ABY, 5), (.TXS, .IMP, 2), (.TAS, .ABY, 5),
  (.SHY, .ABX, 5), (.STA, .ABX, 5), (.SHX, .ABY, 5), (.AHX, .ABY, 5)]

/-- Row Ax of `TABLE` (rule R114): mnemonic, mode, base cycles. -/
def tableA : List (Mnemonic × Mode × Nat) := [
  (.LDY, .IMM, 2), (.LDA, .IZX, 6), (.LDX, .IMM, 2), (.LAX, .IZX, 6),
  (.LDY, .ZP0, 3), (.LDA, .ZP0, 3), (.LDX, .ZP0, 3), (.LAX, .ZP0, 3),
  (.TAY, .IMP, 2), (.LDA, .IMM, 2), (.TAX, .IMP, 2), (.LXA, .IMM, 2),
  (.LDY, .ABS, 4), (.LDA, .ABS, 4), (.LDX, .ABS, 4), (.LAX, .ABS, 4)]

/-- Row Bx of `TABLE` (rule R114): mnemonic, mode, base cycles. -/
def tableB : List (Mnemonic × Mode × Nat) := [
  (.BCS, .REL, 2), (.LDA, .IZY, 5), (.KIL, .IMP, 2), (.LAX, .IZY, 5),
  (.LDY, .ZPX, 4), (.LDA, .ZPX, 4), (.LDX, .ZPY, 4), (.LAX, .ZPY, 4),
  (.CLV, .IMP, 2), (.LDA, .ABY, 4), (.TSX, .IMP, 2), (.LAS, .ABY, 4),
  (.LDY, .ABX, 4), (.LDA, .ABX, 4), (.LDX, .ABY, 4), (.LAX, .ABY, 4)]

/-- Row Cx of `TABLE` (rule R114): mnemonic, mode, base cycles. -/
def tableC : List (Mnemonic × Mode × Nat) := [
  (.CPY, .IMM, 2), (.CMP, .IZX, 6), (.NOP, .IMM, 2), (.DCP, .IZX, 8),
  (.CPY, .ZP0, 3), (.CMP, .ZP0, 3), (.DEC, .ZP0, 5), (.DCP, .ZP0, 5),
  (.INY, .IMP, 2), (.CMP, .IMM, 2), (.DEX, .IMP, 2), (.AXS, .IMM, 2),
  (.CPY, .ABS, 4), (.CMP, .ABS, 4), (.DEC, .ABS, 6), (.DCP, .ABS, 6)]

/-- Row Dx of `TABLE` (rule R114): mnemonic, mode, base cycles. -/
def tableD : List (Mnemonic × Mode × Nat) := [
  (.BNE, .REL, 2), (.CMP, .IZY, 5), (.KIL, .IMP, 2), (.DCP, .IZY, 8),
  (.NOP, .ZPX, 4), (.CMP, .ZPX, 4), (.DEC, .ZPX, 6), (.DCP, .ZPX, 6),
  (.CLD, .IMP, 2), (.CMP, .ABY, 4), (.NOP, .IMP, 2), (.DCP, .ABY, 7),
  (.NOP, .ABX, 4), (.CMP, .ABX, 4), (.DEC, .ABX, 7), (.DCP, .ABX, 7)]

/-- Row Ex of `TABLE` (rule R114): mnemonic, mode, base cycles. -/
def tableE : List (Mnemonic × Mode × Nat) := [
  (.CPX, .IMM, 2), (.SBC, .IZX, 6), (.NOP, .IMM, 2), (.ISC, .IZX, 8),
  (.CPX, .ZP0, 3), (.SBC, .ZP0, 3), (.INC, .ZP0, 5), (.ISC, .ZP0, 5),
  (.INX, .IMP, 2), (.SBC, .IMM, 2), (.NOP, .IMP, 2), (.SBC, .IMM, 2),
  (.CPX, .ABS, 4), (.SBC, .ABS, 4), (.INC, .ABS, 6), (.ISC, .ABS, 6)]

/-- Row Fx of `TABLE` (rule R114): mnemonic, mode, base cycles. -/
def tableF : List (Mnemonic × Mode × Nat) := [
  (.BEQ, .REL, 2), (.SBC, .IZY, 5), (.KIL, .IMP, 2), (.ISC, .IZY, 8),
  (.NOP, .ZPX, 4), (.SBC, .ZPX, 4), (.INC, .ZPX, 6), (.ISC, .ZPX, 6),
  (.SED, .IMP, 2), (.SBC, .ABY, 4), (.NOP, .IMP, 2), (.ISC, .ABY, 7),
  (.NOP, .ABX, 4), (.SBC, .ABX, 4), (.INC, .ABX, 7), (.ISC, .ABX, 7)]

/-- `TABLE` of rules R32 and R114. -/
def opcodeTable : List (Mnemonic × Mode × Nat) :=
  table0 ++ table1 ++ table2 ++ table3 ++ table4 ++ table5 ++ table6 ++ table7 ++
  table8 ++ table9 ++ tableA ++ tableB ++ tableC ++ tableD ++ tableE ++ tableF

/-- `TABLE[op]`. -/
def tableRow (op : Byte) : Mnemonic × Mode × Nat := (opcodeTable[op.toNat]?).getD (.NOP, .IMP, 2)

/-- The shape of the instruction that opcode `op` begins. -/
def opcodeShape (op : Byte) : Shape := (shapes[op.toNat]?).getD (.one .nopImp)

/-- `LEN(mode)` of rule R113. -/
def Mode.length (m : Mode) : Nat := 1 + m.operandBytes

/-- The decoder: the first instruction of a byte list and the bytes after it. -/
def decode : List Byte → Except DecodeError (Instr × List Byte)
  | [] => .error .noOpcode
  | op :: rest =>
    match opcodeShape op, rest with
    | .one i, rest => .ok (i, rest)
    | .two f, d :: rest => .ok (f d, rest)
    | .three f, l :: h :: rest => .ok (f (cat h l), rest)
    | _, _ => .error (.noOperand op)

/-- The opcode byte of an instruction (rule R114). -/
def Instr.opcode : Instr → Byte
  | .brkImp => 0x00#8
  | .oraIzx _ => 0x01#8
  | .kilImp02 => 0x02#8
  | .sloIzx _ => 0x03#8
  | .nopZp004 _ => 0x04#8
  | .oraZp0 _ => 0x05#8
  | .aslZp0 _ => 0x06#8
  | .sloZp0 _ => 0x07#8
  | .phpImp => 0x08#8
  | .oraImm _ => 0x09#8
  | .aslImp => 0x0A#8
  | .ancImm0B _ => 0x0B#8
  | .nopAbs _ => 0x0C#8
  | .oraAbs _ => 0x0D#8
  | .aslAbs _ => 0x0E#8
  | .sloAbs _ => 0x0F#8
  | .bplRel _ => 0x10#8
  | .oraIzy _ => 0x11#8
  | .kilImp12 => 0x12#8
  | .sloIzy _ => 0x13#8
  | .nopZpx14 _ => 0x14#8
  | .oraZpx _ => 0x15#8
  | .aslZpx _ => 0x16#8
  | .sloZpx _ => 0x17#8
  | .clcImp => 0x18#8
  | .oraAby _ => 0x19#8
  | .nopImp1A => 0x1A#8
  | .sloAby _ => 0x1B#8
  | .nopAbx1C _ => 0x1C#8
  | .oraAbx _ => 0x1D#8
  | .aslAbx _ => 0x1E#8
  | .sloAbx _ => 0x1F#8
  | .jsrAbs _ => 0x20#8
  | .andIzx _ => 0x21#8
  | .kilImp22 => 0x22#8
  | .rlaIzx _ => 0x23#8
  | .bitZp0 _ => 0x24#8
  | .andZp0 _ => 0x25#8
  | .rolZp0 _ => 0x26#8
  | .rlaZp0 _ => 0x27#8
  | .plpImp => 0x28#8
  | .andImm _ => 0x29#8
  | .rolImp => 0x2A#8
  | .ancImm2B _ => 0x2B#8
  | .bitAbs _ => 0x2C#8
  | .andAbs _ => 0x2D#8
  | .rolAbs _ => 0x2E#8
  | .rlaAbs _ => 0x2F#8
  | .bmiRel _ => 0x30#8
  | .andIzy _ => 0x31#8
  | .kilImp32 => 0x32#8
  | .rlaIzy _ => 0x33#8
  | .nopZpx34 _ => 0x34#8
  | .andZpx _ => 0x35#8
  | .rolZpx _ => 0x36#8
  | .rlaZpx _ => 0x37#8
  | .secImp => 0x38#8
  | .andAby _ => 0x39#8
  | .nopImp3A => 0x3A#8
  | .rlaAby _ => 0x3B#8
  | .nopAbx3C _ => 0x3C#8
  | .andAbx _ => 0x3D#8
  | .rolAbx _ => 0x3E#8
  | .rlaAbx _ => 0x3F#8
  | .rtiImp => 0x40#8
  | .eorIzx _ => 0x41#8
  | .kilImp42 => 0x42#8
  | .sreIzx _ => 0x43#8
  | .nopZp044 _ => 0x44#8
  | .eorZp0 _ => 0x45#8
  | .lsrZp0 _ => 0x46#8
  | .sreZp0 _ => 0x47#8
  | .phaImp => 0x48#8
  | .eorImm _ => 0x49#8
  | .lsrImp => 0x4A#8
  | .alrImm _ => 0x4B#8
  | .jmpAbs _ => 0x4C#8
  | .eorAbs _ => 0x4D#8
  | .lsrAbs _ => 0x4E#8
  | .sreAbs _ => 0x4F#8
  | .bvcRel _ => 0x50#8
  | .eorIzy _ => 0x51#8
  | .kilImp52 => 0x52#8
  | .sreIzy _ => 0x53#8
  | .nopZpx54 _ => 0x54#8
  | .eorZpx _ => 0x55#8
  | .lsrZpx _ => 0x56#8
  | .sreZpx _ => 0x57#8
  | .cliImp => 0x58#8
  | .eorAby _ => 0x59#8
  | .nopImp5A => 0x5A#8
  | .sreAby _ => 0x5B#8
  | .nopAbx5C _ => 0x5C#8
  | .eorAbx _ => 0x5D#8
  | .lsrAbx _ => 0x5E#8
  | .sreAbx _ => 0x5F#8
  | .rtsImp => 0x60#8
  | .adcIzx _ => 0x61#8
  | .kilImp62 => 0x62#8
  | .rraIzx _ => 0x63#8
  | .nopZp064 _ => 0x64#8
  | .adcZp0 _ => 0x65#8
  | .rorZp0 _ => 0x66#8
  | .rraZp0 _ => 0x67#8
  | .plaImp => 0x68#8
  | .adcImm _ => 0x69#8
  | .rorImp => 0x6A#8
  | .arrImm _ => 0x6B#8
  | .jmpInd _ => 0x6C#8
  | .adcAbs _ => 0x6D#8
  | .rorAbs _ => 0x6E#8
  | .rraAbs _ => 0x6F#8
  | .bvsRel _ => 0x70#8
  | .adcIzy _ => 0x71#8
  | .kilImp72 => 0x72#8
  | .rraIzy _ => 0x73#8
  | .nopZpx74 _ => 0x74#8
  | .adcZpx _ => 0x75#8
  | .rorZpx _ => 0x76#8
  | .rraZpx _ => 0x77#8
  | .seiImp => 0x78#8
  | .adcAby _ => 0x79#8
  | .nopImp7A => 0x7A#8
  | .rraAby _ => 0x7B#8
  | .nopAbx7C _ => 0x7C#8
  | .adcAbx _ => 0x7D#8
  | .rorAbx _ => 0x7E#8
  | .rraAbx _ => 0x7F#8
  | .nopImm80 _ => 0x80#8
  | .staIzx _ => 0x81#8
  | .nopImm82 _ => 0x82#8
  | .saxIzx _ => 0x83#8
  | .styZp0 _ => 0x84#8
  | .staZp0 _ => 0x85#8
  | .stxZp0 _ => 0x86#8
  | .saxZp0 _ => 0x87#8
  | .deyImp => 0x88#8
  | .nopImm89 _ => 0x89#8
  | .txaImp => 0x8A#8
  | .xaaImm _ => 0x8B#8
  | .styAbs _ => 0x8C#8
  | .staAbs _ => 0x8D#8
  | .stxAbs _ => 0x8E#8
  | .saxAbs _ => 0x8F#8
  | .bccRel _ => 0x90#8
  | .staIzy _ => 0x91#8
  | .kilImp92 => 0x92#8
  | .ahxIzy _ => 0x93#8
  | .styZpx _ => 0x94#8
  | .staZpx _ => 0x95#8
  | .stxZpy _ => 0x96#8
  | .saxZpy _ => 0x97#8
  | .tyaImp => 0x98#8
  | .staAby _ => 0x99#8
  | .txsImp => 0x9A#8
  | .tasAby _ => 0x9B#8
  | .shyAbx _ => 0x9C#8
  | .staAbx _ => 0x9D#8
  | .shxAby _ => 0x9E#8
  | .ahxAby _ => 0x9F#8
  | .ldyImm _ => 0xA0#8
  | .ldaIzx _ => 0xA1#8
  | .ldxImm _ => 0xA2#8
  | .laxIzx _ => 0xA3#8
  | .ldyZp0 _ => 0xA4#8
  | .ldaZp0 _ => 0xA5#8
  | .ldxZp0 _ => 0xA6#8
  | .laxZp0 _ => 0xA7#8
  | .tayImp => 0xA8#8
  | .ldaImm _ => 0xA9#8
  | .taxImp => 0xAA#8
  | .lxaImm _ => 0xAB#8
  | .ldyAbs _ => 0xAC#8
  | .ldaAbs _ => 0xAD#8
  | .ldxAbs _ => 0xAE#8
  | .laxAbs _ => 0xAF#8
  | .bcsRel _ => 0xB0#8
  | .ldaIzy _ => 0xB1#8
  | .kilImpB2 => 0xB2#8
  | .laxIzy _ => 0xB3#8
  | .ldyZpx _ => 0xB4#8
  | .ldaZpx _ => 0xB5#8
  | .ldxZpy _ => 0xB6#8
  | .laxZpy _ => 0xB7#8
  | .clvImp => 0xB8#8
  | .ldaAby _ => 0xB9#8
  | .tsxImp => 0xBA#8
  | .lasAby _ => 0xBB#8
  | .ldyAbx _ => 0xBC#8
  | .ldaAbx _ => 0xBD#8
  | .ldxAby _ => 0xBE#8
  | .laxAby _ => 0xBF#8
  | .cpyImm _ => 0xC0#8
  | .cmpIzx _ => 0xC1#8
  | .nopImmC2 _ => 0xC2#8
  | .dcpIzx _ => 0xC3#8
  | .cpyZp0 _ => 0xC4#8
  | .cmpZp0 _ => 0xC5#8
  | .decZp0 _ => 0xC6#8
  | .dcpZp0 _ => 0xC7#8
  | .inyImp => 0xC8#8
  | .cmpImm _ => 0xC9#8
  | .dexImp => 0xCA#8
  | .axsImm _ => 0xCB#8
  | .cpyAbs _ => 0xCC#8
  | .cmpAbs _ => 0xCD#8
  | .decAbs _ => 0xCE#8
  | .dcpAbs _ => 0xCF#8
  | .bneRel _ => 0xD0#8
  | .cmpIzy _ => 0xD1#8
  | .kilImpD2 => 0xD2#8
  | .dcpIzy _ => 0xD3#8
  | .nopZpxD4 _ => 0xD4#8
  | .cmpZpx _ => 0xD5#8
  | .decZpx _ => 0xD6#8
  | .dcpZpx _ => 0xD7#8
  | .cldImp => 0xD8#8
  | .cmpAby _ => 0xD9#8
  | .nopImpDA => 0xDA#8
  | .dcpAby _ => 0xDB#8
  | .nopAbxDC _ => 0xDC#8
  | .cmpAbx _ => 0xDD#8
  | .decAbx _ => 0xDE#8
  | .dcpAbx _ => 0xDF#8
  | .cpxImm _ => 0xE0#8
  | .sbcIzx _ => 0xE1#8
  | .nopImmE2 _ => 0xE2#8
  | .iscIzx _ => 0xE3#8
  | .cpxZp0 _ => 0xE4#8
  | .sbcZp0 _ => 0xE5#8
  | .incZp0 _ => 0xE6#8
  | .iscZp0 _ => 0xE7#8
  | .inxImp => 0xE8#8
  | .sbcImm _ => 0xE9#8
  | .nopImp => 0xEA#8
  | .sbcImmEB _ => 0xEB#8
  | .cpxAbs _ => 0xEC#8
  | .sbcAbs _ => 0xED#8
  | .incAbs _ => 0xEE#8
  | .iscAbs _ => 0xEF#8
  | .beqRel _ => 0xF0#8
  | .sbcIzy _ => 0xF1#8
  | .kilImpF2 => 0xF2#8
  | .iscIzy _ => 0xF3#8
  | .nopZpxF4 _ => 0xF4#8
  | .sbcZpx _ => 0xF5#8
  | .incZpx _ => 0xF6#8
  | .iscZpx _ => 0xF7#8
  | .sedImp => 0xF8#8
  | .sbcAby _ => 0xF9#8
  | .nopImpFA => 0xFA#8
  | .iscAby _ => 0xFB#8
  | .nopAbxFC _ => 0xFC#8
  | .sbcAbx _ => 0xFD#8
  | .incAbx _ => 0xFE#8
  | .iscAbx _ => 0xFF#8

/-- The operand bytes in ascending address order, low byte first (rules R110, R112). -/
def Operand.bytes : Operand → List Byte
  | .imp => []
  | .imm d => [d]
  | .zp0 d => [d]
  | .zpx d => [d]
  | .zpy d => [d]
  | .rel d => [d]
  | .izx d => [d]
  | .izy d => [d]
  | .ind a => [lo a, hi a]
  | .abs a => [lo a, hi a]
  | .abx a => [lo a, hi a]
  | .aby a => [lo a, hi a]

/-- The encoder: the bytes of an instruction. -/
def encode (i : Instr) : List Byte := i.opcode :: i.operand.bytes

/-- The length of an instruction in bytes. -/
def Instr.length (i : Instr) : Nat := i.mode.length

/-- The base cycle count of an instruction (rule R114). -/
def Instr.baseCycles (i : Instr) : Nat := (tableRow i.opcode).2.2

/-- The three bytes of an instruction numbered as the opcode table numbers its bits: the first byte lowest. Bits from
`nbits` up are zero. -/
def tableWordBytes (nbits w : Nat) : List Byte :=
  let v := w % 2 ^ nbits
  [BitVec.ofNat 8 v, BitVec.ofNat 8 (v / 2 ^ 8), BitVec.ofNat 8 (v / 2 ^ 16)]

/-- The instruction the decoder reads from an instruction's bits in the opcode table's numbering. -/
def decodeTableWord (nbits w : Nat) : Option Instr :=
  match decode (tableWordBytes nbits w) with
  | .ok (i, _) => some i
  | .error _ => none

/-- The displacement byte a branch at `pc` needs to reach `target` (rule R120): `target - (pc + 2)`, which must lie in
-128 to +127 (modulo 2^16, rule R215). -/
def branchDisplacement (pc target : Addr) : Option Byte :=
  let d := target - (pc + 2)
  if sext (lo d) = d then some (lo d) else none

end Sys2Proof
end

