-- ==== Sys2Proof/Machine/State.lean ====
section
/-! DEFINITION. The machine's state (spec/10_state.md, spec/52_mappers.md) as plain data, the reasons a step could stop,
and the state after reset. -/

namespace Sys2Proof.Machine

/-- A memory of `w`-bit cells: (index, value) pairs, indexes strictly rising, no entry holding what an unlisted index
reads as (0, log 3). `Mem 8` is a list of `Host.Cell`. -/
abbrev Mem (w : Nat) := List (Nat × BitVec w)

/-- The CPU (rules R20 to R30). -/
structure Cpu where
  /-- `A` (R21). -/
  a : Byte
  /-- `X` (R22). -/
  x : Byte
  /-- `Y` (R22). -/
  y : Byte
  /-- `S`, the stack pointer (R23). -/
  sp : Byte
  /-- `P`, the status register, N V U B D I Z C from bit 7 down (R24). -/
  p : Byte
  /-- `PC` (R28). -/
  pc : Addr
  /-- `cpu.cyc`, the cycles still owed (R29). -/
  cyc : Nat
  /-- `cpu.halted` (R30). -/
  halted : Bool
  deriving DecidableEq, Repr

/-- One slot of the secondary sprite buffer (R51): `ppu.sec[i]` with its pattern shifters `ppu.spr_lo[i]`,
`ppu.spr_hi[i]` (log 14). -/
structure Sprite where
  y : Byte
  id : Byte
  attr : Byte
  x : Byte
  lo : Byte
  hi : Byte
  deriving DecidableEq, Repr

/-- An empty slot: `sec` bytes 0xFF, shifters 0 (R51). -/
def Sprite.empty : Sprite := ⟨0xFF#8, 0xFF#8, 0xFF#8, 0xFF#8, 0#8, 0#8⟩

/-- The PPU (rules R35 to R53). -/
structure Ppu where
  /-- Control (R36). -/
  ctrl : Byte
  /-- Mask (R37). -/
  mask : Byte
  /-- Status bit 7 (R38; bits 4:0 of Status are no storage, log 13). -/
  vblank : Bool
  /-- Status bit 6 (R38). -/
  spriteZeroHit : Bool
  /-- Status bit 5 (R38). -/
  spriteOverflow : Bool
  /-- The write toggle; false is 0 (R39). -/
  w : Bool
  /-- The current VRAM address (R40). -/
  v : Loopy
  /-- The temporary VRAM address (R40). -/
  t : Loopy
  /-- Fine X (R41). -/
  fx : BitVec 3
  /-- The OAM address (R42). -/
  oamaddr : Byte
  /-- The port 7 read buffer (R43). -/
  rdbuf : Byte
  /-- The scanline, -1 to 260 (R44). -/
  scanline : Int
  /-- The dot, 0 to 340 (R44). -/
  dot : Nat
  /-- The latched NMI request (R45). -/
  nmiReq : Bool
  /-- `frame_complete` (R46). -/
  frameComplete : Bool
  /-- The two nametable banks: index 1024 * bank + offset (R47). -/
  nt : Mem 8
  /-- The palette, 32 cells (R48). -/
  pal : Mem 8
  /-- The two pattern banks: index 4096 * bank + offset (R49). -/
  chrRam : Mem 8
  /-- OAM, 256 cells (R50). -/
  oam : Mem 8
  /-- The eight slots of the secondary sprite buffer with their shifters (R51). -/
  sprites : List Sprite
  /-- `sec_count`, 0 to 8 (R51). -/
  secCount : Nat
  /-- `s0_possible` (R51). -/
  s0Possible : Bool
  /-- `s0_rendering` (R51). -/
  s0Rendering : Bool
  /-- The fetch latch `nx_id` (R52). -/
  nxId : Byte
  /-- The fetch latch `nx_attr` (R52). -/
  nxAttr : BitVec 2
  /-- The fetch latch `nx_lo` (R52). -/
  nxLo : Byte
  /-- The fetch latch `nx_hi` (R52). -/
  nxHi : Byte
  /-- The background shifter `sh_pat_lo` (R52). -/
  shPatLo : BitVec 16
  /-- The background shifter `sh_pat_hi` (R52). -/
  shPatHi : BitVec 16
  /-- The background shifter `sh_att_lo` (R52). -/
  shAttLo : BitVec 16
  /-- The background shifter `sh_att_hi` (R52). -/
  shAttHi : BitVec 16
  /-- The framebuffer: index 256 * row + column, a 6-bit colour index each (R53). -/
  fb : Mem 6
  deriving DecidableEq, Repr

/-- The DMA engine (R58). -/
structure Dma where
  page : Byte
  off : Byte
  data : Byte
  dummy : Bool
  active : Bool
  deriving DecidableEq, Repr

/-- The header's mirroring choice (R8, R411). -/
inductive HdrMirroring where
  | horizontal
  | vertical
  deriving DecidableEq, Repr

/-- The mirroring modes of rule R420. -/
inductive Mirroring where
  | horizontal
  | vertical
  | singleScreenLow
  | singleScreenHigh
  deriving DecidableEq, Repr

/-- The registers of the shift-register variant, id 1 (R435). -/
structure ShiftRegs where
  load : BitVec 5
  count : Nat
  control : BitVec 5
  chrLo : BitVec 5
  chrHi : BitVec 5
  prg : BitVec 4
  deriving DecidableEq, Repr

/-- The registers of the scanline-IRQ variant, id 4 (R450). -/
structure ScanlineRegs where
  target : BitVec 3
  prgMode : Bool
  chrInv : Bool
  reg : Vector Byte 8
  mir : HdrMirroring
  irqLatch : Byte
  irqCounter : Byte
  irqEnable : Bool
  irqActive : Bool
  deriving DecidableEq, Repr

/-- The two values of a latch of the latch-driven variant (R455). -/
inductive Latch where
  | fd
  | fe
  deriving DecidableEq, Repr

/-- The registers of the latch-driven variant, id 9 (R455). -/
structure LatchRegs where
  prg : BitVec 4
  chrFd0 : BitVec 5
  chrFe0 : BitVec 5
  chrFd1 : BitVec 5
  chrFe1 : BitVec 5
  latch0 : Latch
  latch1 : Latch
  mir : HdrMirroring
  deriving DecidableEq, Repr

/-- `mapper.s` (R63): the variant with its private registers (R430, R435, R440, R443, R450, R455, R458). -/
inductive Mapper where
  /-- id 0, fixed single-bank: no register (R430). -/
  | fixed
  /-- id 1, shift-register bank-select (R435). -/
  | shift (r : ShiftRegs)
  /-- id 2, simple PRG bank-select with RAM (R440). -/
  | prgSelect (prg : BitVec 4)
  /-- id 3, CHR-bank-select-only (R443). -/
  | chrSelect (chr : BitVec 2)
  /-- id 4, scanline-IRQ bank-switcher (R450). -/
  | scanline (r : ScanlineRegs)
  /-- id 9, latch-driven CHR switching (R455). -/
  | latch (r : LatchRegs)
  /-- id 66, single-register combined select (R458). -/
  | combined (prg chr : BitVec 2)
  deriving DecidableEq, Repr

/-- The cartridge: launch parameters that no step writes (R62, R67, R411; log 2). -/
structure Cart where
  /-- `cart.prg`, 16384 * `prgBanks` bytes. -/
  prg : Mem 8
  prgBanks : Nat
  /-- `cart.chr`, 8192 * `chrBanks` bytes. -/
  chr : Mem 8
  chrBanks : Nat
  hdrMirroring : HdrMirroring
  deriving DecidableEq, Repr

/-- The whole machine. -/
structure State where
  cpu : Cpu
  ppu : Ppu
  /-- `bus.ram`, 2048 cells (R56). -/
  ram : Mem 8
  /-- `bus.ctl_shift[0]` (R57). -/
  ctlShift0 : Byte
  /-- `bus.ctl_shift[1]` (R57). -/
  ctlShift1 : Byte
  dma : Dma
  /-- `bus.tick` (R59). -/
  tick : Nat
  mapper : Mapper
  /-- `mapper.ram`, 8192 cells (R64). -/
  mapperRam : Mem 8
  cart : Cart
  /-- The host's input `ctl_in[0]` (R402; log 5). -/
  ctlIn0 : Byte
  /-- The host's input `ctl_in[1]` (R402; log 5). -/
  ctlIn1 : Byte
  deriving DecidableEq, Repr

/-- Why the machine could stop with a fault: nothing, "there are none in the panic/exception sense" (R13, R477). A
closed type without a constructor: nobody raises a fault. -/
inductive Fault where
  deriving DecidableEq, Repr

/-- Why the model could refuse an instruction. -/
inductive Refusal where
  /-- Raised by `exec`'s arm of an instruction that has no meaning yet; no arm raises it in this model, and it would be
  safe: the model would stop where the hardware goes on. -/
  | notModelled (mnemonic : String)
  deriving DecidableEq, Repr

/-- The outcome of a step or of an instruction. -/
abbrev Result := Host.Outcome State Fault Refusal

/-- The CPU of `State.reset` (R33, R512); the word at the blank cartridge's reset vector is 0x0000 (log 4). -/
def Cpu.reset : Cpu :=
  { a := 0#8, x := 0#8, y := 0#8, sp := 0xFD#8, p := 0x24#8, pc := 0#16, cyc := 7, halted := false }

/-- The PPU of `State.reset`: registers and pipeline as R54 and R514 say, with memories that list nothing (log 3, log 6). -/
def Ppu.reset : Ppu :=
  { ctrl := 0#8, mask := 0#8, vblank := false, spriteZeroHit := false, spriteOverflow := false, w := false,
    v := 0#15, t := 0#15, fx := 0#3, oamaddr := 0#8, rdbuf := 0#8, scanline := 0, dot := 0, nmiReq := false,
    frameComplete := false, nt := [], pal := [], chrRam := [], oam := [],
    sprites := List.replicate 8 Sprite.empty, secCount := 0, s0Possible := false, s0Rendering := false,
    nxId := 0#8, nxAttr := 0#2, nxLo := 0#8, nxHi := 0#8, shPatLo := 0#16, shPatHi := 0#16, shAttLo := 0#16,
    shAttHi := 0#16, fb := [] }

/-- The DMA engine after reset (R58). -/
def Dma.reset : Dma := { page := 0#8, off := 0#8, data := 0#8, dummy := true, active := false }

/-- The cartridge of `State.reset`: one PRG bank, no CHR bank, Horizontal, no byte listed (log 4). -/
def Cart.blank : Cart := { prg := [], prgBanks := 1, chr := [], chrBanks := 0, hdrMirroring := .horizontal }

/-- The machine right after reset (R510, R516), with power-on memories that list nothing and the blank cartridge of
the fixed variant (log 3 to log 6), whose reset vector reads 0x0000. -/
def State.reset : State :=
  { cpu := Cpu.reset, ppu := Ppu.reset, ram := [], ctlShift0 := 0#8, ctlShift1 := 0#8, dma := Dma.reset,
    tick := 0, mapper := .fixed, mapperRam := [], cart := Cart.blank, ctlIn0 := 0#8, ctlIn1 := 0#8 }

end Sys2Proof.Machine
end

