-- ==== Sys2Proof/Machine/Mem.lean ====
section
/-! DEFINITION. Memories: read and write of one cell, in canonical form. -/

namespace Sys2Proof.Machine

/-- What an unlisted cell reads as: 0 (log 3). -/
def Mem.unlisted {w : Nat} : BitVec w := 0#w

/-- The value of cell `i`. -/
def Mem.read {w : Nat} (m : Mem w) (i : Nat) : BitVec w :=
  match m with
  | [] => Mem.unlisted
  | (k, v) :: rest => if i = k then v else if i < k then Mem.unlisted else Mem.read rest i

/-- `m` with `v` in cell `i`, in canonical form. -/
def Mem.write {w : Nat} (m : Mem w) (i : Nat) (v : BitVec w) : Mem w :=
  match m with
  | [] => if v = Mem.unlisted then [] else [(i, v)]
  | (k, u) :: rest =>
    if i < k then (if v = Mem.unlisted then (k, u) :: rest else (i, v) :: (k, u) :: rest)
    else if i = k then (if v = Mem.unlisted then rest else (i, v) :: rest)
    else (k, u) :: Mem.write rest i v

/-- The canonical form with every index at least `low`: indexes strictly rising, no entry that reads as unlisted. -/
def Mem.wfFrom {w : Nat} (low : Nat) (m : Mem w) : Bool :=
  match m with
  | [] => true
  | (k, v) :: rest => decide (low ≤ k) && decide (v ≠ Mem.unlisted) && Mem.wfFrom (k + 1) rest

/-- The canonical form. -/
def Mem.wf {w : Nat} (m : Mem w) : Bool := Mem.wfFrom 0 m

/-- Every listed index lies below `size`. -/
def Mem.within {w : Nat} (m : Mem w) (size : Nat) : Bool := m.all (fun c => decide (c.1 < size))

end Sys2Proof.Machine
end

