-- ==== Sys2Proof/Machine/Mapper.lean ====
section
/-! DEFINITION. The cartridge: the Mapper contract (rules R420 to R424) and the seven reference variants (rules R430 to
R458). -/

namespace Sys2Proof.Machine

/-! ### Offsets (rule R423: every offset is reduced modulo the size of its array) -/

/-- The number of bytes of `cart.prg` (R62). -/
def Cart.prgSize (c : Cart) : Nat := 16384 * c.prgBanks

/-- The number of bytes of `cart.chr` (R62). -/
def Cart.chrSize (c : Cart) : Nat := 8192 * c.chrBanks

/-- `P16(b, a)`. -/
def p16 (b : Nat) (a : Addr) : Nat := b * 0x4000 + a.toNat % 0x4000

/-- `P32(b, a)`. -/
def p32 (b : Nat) (a : Addr) : Nat := b * 0x8000 + a.toNat % 0x8000

/-- `P8(b, a)`. -/
def p8 (b : Nat) (a : Addr) : Nat := b * 0x2000 + a.toNat % 0x2000

/-- `C8(b, a)`. -/
def c8 (b : Nat) (a : PpuAddr) : Nat := b * 0x2000 + a.toNat % 0x2000

/-- `C4(b, a)`. -/
def c4 (b : Nat) (a : PpuAddr) : Nat := b * 0x1000 + a.toNat % 0x1000

/-- `C1(b, a)`. -/
def c1 (b : Nat) (a : PpuAddr) : Nat := b * 0x0400 + a.toNat % 0x0400

/-! ### Access to the scanline variant's register file (rule R450) -/

/-- `reg[k]`. -/
def ScanlineRegs.get (r : ScanlineRegs) (k : Fin 8) : Byte := r.reg[k.val]

/-- `reg[target] <- d`. -/
def ScanlineRegs.setTarget (r : ScanlineRegs) (d : Byte) : ScanlineRegs :=
  { r with reg := r.reg.set r.target.toNat d (by have := r.target.isLt; omega) }

/-! ### Reset values (rule R515) -/

/-- The shift-register variant's reset values (R435). -/
def ShiftRegs.reset : ShiftRegs :=
  { load := 0#5, count := 0, control := 0x1C#5, chrLo := 0#5, chrHi := 0#5, prg := 0#4 }

/-- The scanline variant's reset values (R450). -/
def ScanlineRegs.reset (hdr : HdrMirroring) : ScanlineRegs :=
  { target := 0#3, prgMode := false, chrInv := false, reg := #v[0#8, 0#8, 0#8, 0#8, 0#8, 0#8, 0#8, 1#8], mir := hdr,
    irqLatch := 0#8, irqCounter := 0#8, irqEnable := false, irqActive := false }

/-- The latch-driven variant's reset values (R455). -/
def LatchRegs.reset (hdr : HdrMirroring) : LatchRegs :=
  { prg := 0#4, chrFd0 := 0#5, chrFe0 := 0#5, chrFd1 := 0#5, chrFe1 := 0#5, latch0 := .fe, latch1 := .fe, mir := hdr }

/-- `Mapper.reset()`: the variant's registers at their reset values (R430, R435, R440, R443, R450, R455, R458). -/
def Mapper.reset (hdr : HdrMirroring) : Mapper → Mapper
  | .fixed => .fixed
  | .shift _ => .shift ShiftRegs.reset
  | .prgSelect _ => .prgSelect 0#4
  | .chrSelect _ => .chrSelect 0#2
  | .scanline _ => .scanline (ScanlineRegs.reset hdr)
  | .latch _ => .latch (LatchRegs.reset hdr)
  | .combined _ _ => .combined 0#2 0#2

/-- The variant that a cartridge header's mapper id selects (R424), its registers at their reset values; any other id is
a load-time error, outside the hardware. -/
def Mapper.ofId (hdr : HdrMirroring) : Nat → Option Mapper
  | 0 => some .fixed
  | 1 => some (.shift ShiftRegs.reset)
  | 2 => some (.prgSelect 0#4)
  | 3 => some (.chrSelect 0#2)
  | 4 => some (.scanline (ScanlineRegs.reset hdr))
  | 9 => some (.latch (LatchRegs.reset hdr))
  | 66 => some (.combined 0#2 0#2)
  | _ => none

/-- The mapper id of a header's two flag bytes: high nibble of byte 1 concatenated with high nibble of byte 0 (R411,
R424). -/
def headerMapperId (flags0 flags1 : Byte) : Nat := (flags1.toNat / 16) * 16 + flags0.toNat / 16

/-- The header's mirroring choice: bit 0 of flag byte 0 set means Vertical (R411). -/
def headerMirroring (flags0 : Byte) : HdrMirroring := if flags0.getLsbD 0 then .vertical else .horizontal

/-! ### CPU side -/

/-- The answer of `cpuMapRead` (R420). -/
inductive CpuMap where
  | declined
  | mapped (o : Nat)
  | direct (v : Byte)
  deriving DecidableEq, Repr

/-- Whether a variant has the 8 KB RAM at 0x6000 to 0x7FFF (R435, R440, R450). -/
def Mapper.hasRam : Mapper → Bool
  | .shift _ | .prgSelect _ | .scanline _ => true
  | .fixed | .chrSelect _ | .latch _ | .combined _ _ => false

/-- The PRG offset of an address at or above 0x8000, before the reduction of rule R423. -/
def Mapper.prgOffset (m : Mapper) (c : Cart) (a : Addr) : Nat :=
  match m with
  | .fixed | .chrSelect _ => if 1 < c.prgBanks then a.toNat % 0x8000 else a.toNat % 0x4000
  | .shift r =>
    match (r.control.toNat / 4) % 4 with
    | 2 => if a.toNat < 0xC000 then p16 0 a else p16 r.prg.toNat a
    | 3 => if a.toNat < 0xC000 then p16 r.prg.toNat a else p16 (c.prgBanks - 1) a
    | _ => p32 (r.prg.toNat / 2) a
  | .prgSelect prg => if a.toNat < 0xC000 then p16 prg.toNat a else p16 (c.prgBanks - 1) a
  | .scanline r =>
    let n2 := 2 * c.prgBanks
    match (a.toNat / 0x2000) % 4 with
    | 0 => p8 (if r.prgMode then n2 - 2 else (r.get 6).toNat % 0x40) a
    | 1 => p8 ((r.get 7).toNat % 0x40) a
    | 2 => p8 (if r.prgMode then (r.get 6).toNat % 0x40 else n2 - 2) a
    | _ => p8 (n2 - 1) a
  | .latch r =>
    if a.toNat < 0xA000 then p8 r.prg.toNat a
    else -- bank n2 - 3 + ((a - 0xA000) >> 13), which is below zero for one 16 KB bank (log 9)
      let b : Int := 2 * (c.prgBanks : Int) - 3 + (((a.toNat - 0xA000) / 0x2000 : Nat) : Int)
      ((b * 0x2000 + ((a.toNat % 0x2000 : Nat) : Int)) % ((c.prgSize : Nat) : Int)).toNat
  | .combined prg _ => p32 prg.toNat a

/-- `cpuMapRead(a)` (R420, R421). -/
def Mapper.cpuMapRead (m : Mapper) (c : Cart) (ram : Mem 8) (a : Addr) : CpuMap :=
  if 0x8000 ≤ a.toNat then .mapped (m.prgOffset c a % c.prgSize)
  else if 0x6000 ≤ a.toNat && m.hasRam then .direct (ram.read (a.toNat % 0x2000))
  else .declined

/-- The write of `d` to the shift-register variant (R435), `a` at or above 0x8000. -/
def ShiftRegs.write (r : ShiftRegs) (a : Addr) (d : Byte) : ShiftRegs :=
  if d.getLsbD 7 then { r with load := 0#5, count := 0, control := r.control ||| 0x0C#5 }
  else
    let load := (r.load >>> 1) ||| ((d.setWidth 5 &&& 1#5) <<< 4)
    if r.count + 1 = 5 then
      match (a.toNat / 0x2000) % 4 with
      | 0 => { r with load := 0#5, count := 0, control := load }
      | 1 => { r with load := 0#5, count := 0, chrLo := load }
      | 2 => { r with load := 0#5, count := 0, chrHi := load }
      | _ => { r with load := 0#5, count := 0, prg := load.setWidth 4 }
    else { r with load := load, count := r.count + 1 }

/-- The mirroring a register write selects: Horizontal if bit 0 is 1, else Vertical (R450, R455). -/
def mirroringBit (d : Byte) : HdrMirroring := if d.getLsbD 0 then .horizontal else .vertical

/-- The write of `d` to the scanline variant (R450), `a` at or above 0x8000, decoded by `a & 0xE001`. -/
def ScanlineRegs.write (r : ScanlineRegs) (a : Addr) (d : Byte) : ScanlineRegs :=
  match (a.toNat / 0x2000) % 4, a.toNat % 2 with
  | 0, 0 => { r with target := d.setWidth 3, prgMode := d.getLsbD 6, chrInv := d.getLsbD 7 }
  | 0, _ => r.setTarget d
  | 1, 0 => { r with mir := mirroringBit d }
  | 1, _ => r
  | 2, 0 => { r with irqLatch := d }
  | 2, _ => { r with irqCounter := 0#8 }
  | _, 0 => { r with irqEnable := false, irqActive := false }
  | _, _ => { r with irqEnable := true }

/-- The write of `d` to the latch-driven variant (R455), `a` at or above 0x8000. -/
def LatchRegs.write (r : LatchRegs) (a : Addr) (d : Byte) : LatchRegs :=
  match a.toNat / 0x1000 with
  | 0xA => { r with prg := d.setWidth 4 }
  | 0xB => { r with chrFd0 := d.setWidth 5 }
  | 0xC => { r with chrFe0 := d.setWidth 5 }
  | 0xD => { r with chrFd1 := d.setWidth 5 }
  | 0xE => { r with chrFe1 := d.setWidth 5 }
  | 0xF => { r with mir := mirroringBit d }
  | _ => r

/-- The registers after a CPU write of `d` to `a`, `a` at or above 0x8000: a register write, or a discarded write to ROM
(R423). -/
def Mapper.writeReg (m : Mapper) (a : Addr) (d : Byte) : Mapper :=
  match m with
  | .fixed => .fixed
  | .shift r => .shift (r.write a d)
  | .prgSelect _ => .prgSelect (d.setWidth 4)
  | .chrSelect _ => .chrSelect (d.setWidth 2)
  | .scanline r => .scanline (r.write a d)
  | .latch r => .latch (r.write a d)
  | .combined _ _ => .combined ((d >>> 4).setWidth 2) (d.setWidth 2)

/-! ### PPU side -/

/-- The CHR offset of an address below 0x2000, before the reduction of rule R423. -/
def Mapper.chrOffset (m : Mapper) (a : PpuAddr) : Nat :=
  match m with
  | .fixed | .prgSelect _ => a.toNat
  | .shift r =>
    if r.control.getLsbD 4 then (if a.toNat < 0x1000 then c4 r.chrLo.toNat a else c4 r.chrHi.toNat a)
    else (r.chrLo &&& 0x1E#5).toNat * 0x1000 + a.toNat % 0x2000
  | .chrSelect chr => c8 chr.toNat a
  | .scanline r =>
    match (a.toNat / 0x400) ^^^ (if r.chrInv then 4 else 0) with
    | 0 => c1 ((r.get 0) &&& 0xFE#8).toNat a
    | 1 => c1 ((r.get 0) ||| 1#8).toNat a
    | 2 => c1 ((r.get 1) &&& 0xFE#8).toNat a
    | 3 => c1 ((r.get 1) ||| 1#8).toNat a
    | 4 => c1 (r.get 2).toNat a
    | 5 => c1 (r.get 3).toNat a
    | 6 => c1 (r.get 4).toNat a
    | _ => c1 (r.get 5).toNat a
  | .latch r =>
    if a.toNat < 0x1000 then c4 (if r.latch0 = .fd then r.chrFd0 else r.chrFe0).toNat a
    else c4 (if r.latch1 = .fd then r.chrFd1 else r.chrFe1).toNat a
  | .combined _ chr => c8 chr.toNat a

/-- `ppuMapWrite(a)`, and the answer of `ppuMapRead(a)`: the CHR offset, or none where the Mapper declines (R422). -/
def Mapper.ppuMap (m : Mapper) (c : Cart) (a : PpuAddr) : Option Nat :=
  if a.toNat < 0x2000 && decide (c.chrBanks ≠ 0) then some (m.chrOffset a % c.chrSize) else none

/-- The latches after a read of `a` (R455). -/
def LatchRegs.touch (r : LatchRegs) (a : PpuAddr) : LatchRegs :=
  if a.toNat = 0x0FD8 then { r with latch0 := .fd }
  else if a.toNat = 0x0FE8 then { r with latch0 := .fe }
  else if 0x1FD8 ≤ a.toNat && a.toNat ≤ 0x1FDF then { r with latch1 := .fd }
  else if 0x1FE8 ≤ a.toNat && a.toNat ≤ 0x1FEF then { r with latch1 := .fe }
  else r

/-- The Mapper after `ppuMapRead(a)`: only the latch-driven variant changes, and only where it claims the read (R455,
log 10). -/
def Mapper.afterPpuRead (m : Mapper) (c : Cart) (a : PpuAddr) : Mapper :=
  match m with
  | .latch r => if (m.ppuMap c a).isSome then .latch (r.touch a) else m
  | _ => m

/-! ### Mirroring and interrupts -/

/-- A header mirroring choice as a mirroring mode. -/
def HdrMirroring.toMirroring : HdrMirroring → Mirroring
  | .horizontal => .horizontal
  | .vertical => .vertical

/-- `mirroringMode()` (R420, R435, R450, R455). -/
def Mapper.mirroringMode (m : Mapper) (c : Cart) : Mirroring :=
  match m with
  | .shift r =>
    match r.control.toNat % 4 with
    | 0 => .singleScreenLow
    | 1 => .singleScreenHigh
    | 2 => .vertical
    | _ => .horizontal
  | .scanline r => r.mir.toMirroring
  | .latch r => r.mir.toMirroring
  | .fixed | .prgSelect _ | .chrSelect _ | .combined _ _ => c.hdrMirroring.toMirroring

/-- `onScanline()` of the scanline variant (R450). -/
def ScanlineRegs.onScanline (r : ScanlineRegs) : ScanlineRegs :=
  let c := if r.irqCounter = 0#8 then r.irqLatch else r.irqCounter - 1#8
  { r with irqCounter := c, irqActive := r.irqActive || (decide (c = 0#8) && r.irqEnable) }

/-- `onScanline()` (R420). -/
def Mapper.onScanline : Mapper → Mapper
  | .scanline r => .scanline r.onScanline
  | m => m

/-- `irqPending()` (R420). -/
def Mapper.irqPending : Mapper → Bool
  | .scanline r => r.irqActive
  | _ => false

/-- `irqAcknowledge()` (R420). -/
def Mapper.irqAcknowledge : Mapper → Mapper
  | .scanline r => .scanline { r with irqActive := false }
  | m => m

end Sys2Proof.Machine
end

