-- ==== Sys2Proof/Machine/PpuMem.lean ====
section
/-! DEFINITION. The PPU's register fields and its address space (rules R36, R37, R40, R320 to R325). -/

namespace Sys2Proof.Machine

/-! ### Control, Mask and Status fields (R36 to R38) -/

/-- `ctrl.increment_mode`: what a port 7 access adds to `v` (R36). -/
def Ppu.increment (q : Ppu) : Loopy := if q.ctrl.getLsbD 2 then 32#15 else 1#15

/-- `ctrl.pattern_sprite` (R36). -/
def Ppu.patternSprite (q : Ppu) : Bool := q.ctrl.getLsbD 3

/-- `ctrl.pattern_background` (R36). -/
def Ppu.patternBackground (q : Ppu) : Bool := q.ctrl.getLsbD 4

/-- `ctrl.sprite_size`: true is 8x16 (R36). -/
def Ppu.tallSprites (q : Ppu) : Bool := q.ctrl.getLsbD 5

/-- `ctrl.enable_nmi` (R36). -/
def Ppu.enableNmi (q : Ppu) : Bool := q.ctrl.getLsbD 7

/-- `mask.grayscale` (R37). -/
def Ppu.grayscale (q : Ppu) : Bool := q.mask.getLsbD 0

/-- `mask.render_background_left` (R37). -/
def Ppu.backgroundLeft (q : Ppu) : Bool := q.mask.getLsbD 1

/-- `mask.render_sprites_left` (R37). -/
def Ppu.spritesLeft (q : Ppu) : Bool := q.mask.getLsbD 2

/-- `mask.render_background` (R37). -/
def Ppu.renderBackground (q : Ppu) : Bool := q.mask.getLsbD 3

/-- `mask.render_sprites` (R37). -/
def Ppu.renderSprites (q : Ppu) : Bool := q.mask.getLsbD 4

/-- `ren`: rendering is enabled (R37, R330). -/
def Ppu.rendering (q : Ppu) : Bool := q.renderBackground || q.renderSprites

/-- `ppu.stat & 0xE0`: the three stored bits in their places (R38). -/
def Ppu.statBits (q : Ppu) : Byte :=
  withBit (withBit (withBit 0#8 7 q.vblank) 6 q.spriteZeroHit) 5 q.spriteOverflow

/-- What a Status read returns: the flags over the low five bits of the read buffer (R303). -/
def Ppu.statusByte (q : Ppu) : Byte := q.statBits ||| (q.rdbuf &&& 0x1F#8)

/-! ### Loopy fields (R40) -/

/-- `coarse_x`, bits 4:0. -/
def coarseX (v : Loopy) : BitVec 5 := v.extractLsb' 0 5

/-- `coarse_y`, bits 9:5. -/
def coarseY (v : Loopy) : BitVec 5 := v.extractLsb' 5 5

/-- `nametable_x`, bit 10. -/
def nametableX (v : Loopy) : BitVec 1 := v.extractLsb' 10 1

/-- `nametable_y`, bit 11. -/
def nametableY (v : Loopy) : BitVec 1 := v.extractLsb' 11 1

/-- `fine_y`, bits 14:12. -/
def fineY (v : Loopy) : BitVec 3 := v.extractLsb' 12 3

/-- `v` with another `coarse_x`. -/
def setCoarseX (v : Loopy) (x : BitVec 5) : Loopy := putField v 0 x

/-- `v` with another `coarse_y`. -/
def setCoarseY (v : Loopy) (y : BitVec 5) : Loopy := putField v 5 y

/-- `v` with another `nametable_x`. -/
def setNametableX (v : Loopy) (b : BitVec 1) : Loopy := putField v 10 b

/-- `v` with another `nametable_y`. -/
def setNametableY (v : Loopy) (b : BitVec 1) : Loopy := putField v 11 b

/-- `v` with another `fine_y`. -/
def setFineY (v : Loopy) (y : BitVec 3) : Loopy := putField v 12 y

/-! ### The address space (R320 to R324) -/

/-- `NtIndex(a)` as one index, 1024 * bank + offset (R323). -/
def ntIndex (m : Mirroring) (a : PpuAddr) : Nat :=
  let q := a.toNat % 0x1000 / 0x400
  let bank := match m with
    | .horizontal => q / 2
    | .vertical => q % 2
    | .singleScreenLow => 0
    | .singleScreenHigh => 1
  bank * 0x400 + a.toNat % 0x400

/-- `PalIndex(a)` (R324). -/
def palIndex (a : PpuAddr) : Nat :=
  let i := a.toNat % 0x20
  if i = 0x10 ∨ i = 0x14 ∨ i = 0x18 ∨ i = 0x1C then i - 0x10 else i

/-- What every palette read is ANDed with (R320, decision D31). -/
def Ppu.palMask (q : Ppu) : Byte := if q.grayscale then 0x30#8 else 0x3F#8

/-- The byte `PpuRead(a)` returns (R320); reading changes nothing here. -/
def ppuPeek (s : State) (a : PpuAddr) : Byte :=
  match s.mapper.ppuMap s.cart a with
  | some o => s.cart.chr.read o
  | none =>
    if a.toNat ≤ 0x1FFF then s.ppu.chrRam.read a.toNat
    else if a.toNat ≤ 0x3EFF then s.ppu.nt.read (ntIndex (s.mapper.mirroringMode s.cart) a)
    else s.ppu.pal.read (palIndex a) &&& s.ppu.palMask

/-- The machine after the Mapper has been asked for a PPU read of `a` (R325, R455). -/
def ppuTouch (s : State) (a : PpuAddr) : State :=
  { s with mapper := s.mapper.afterPpuRead s.cart a }

/-- `PpuRead(a)`: the byte, and the machine after the read (R320). -/
def ppuRead (s : State) (a : PpuAddr) : Byte × State := (ppuPeek s a, ppuTouch s a)

/-- `PpuWrite(a, d)` (R321): the cartridge claims and discards (R325), or the PPU's own memories take the byte. -/
def ppuWrite (s : State) (a : PpuAddr) (d : Byte) : State :=
  if (s.mapper.ppuMap s.cart a).isSome then s
  else if a.toNat ≤ 0x1FFF then { s with ppu := { s.ppu with chrRam := s.ppu.chrRam.write a.toNat d } }
  else if a.toNat ≤ 0x3EFF then
    { s with ppu := { s.ppu with nt := s.ppu.nt.write (ntIndex (s.mapper.mirroringMode s.cart) a) d } }
  else { s with ppu := { s.ppu with pal := s.ppu.pal.write (palIndex a) d } }

end Sys2Proof.Machine
end

