-- ==== Sys2Proof/Machine/PpuPorts.lean ====
section
/-! DEFINITION. The PPU's eight CPU-visible ports (rules R301 to R311). -/

namespace Sys2Proof.Machine

/-- The PPU address port 7 uses: `v & 0x3FFF` (R308, R309). -/
def Ppu.dataAddr (q : Ppu) : PpuAddr := q.v.setWidth 14

/-- Port 2 read (R303): the status byte; vertical-blank and the toggle are cleared. -/
def statusRead (s : State) : Byte × State :=
  (s.ppu.statusByte, { s with ppu := { s.ppu with vblank := false, w := false } })

/-- Port 4 read (R305): the OAM byte; the OAM address goes up by one. -/
def oamDataRead (s : State) : Byte × State :=
  (s.ppu.oam.read s.ppu.oamaddr.toNat, { s with ppu := { s.ppu with oamaddr := s.ppu.oamaddr + 1#8 } })

/-- Port 7 read (R308): the old buffer, or the palette byte at once; the buffer takes the byte read; `v` goes up. -/
def dataRead (s : State) : Byte × State :=
  let a := s.ppu.dataAddr
  let r := ppuRead s a
  (if 0x3F00 ≤ a.toNat then r.1 else s.ppu.rdbuf,
   { r.2 with ppu := { r.2.ppu with rdbuf := r.1, v := s.ppu.v + s.ppu.increment } })

/-- Port 0 write (R304). -/
def controlWrite (s : State) (d : Byte) : State :=
  { s with ppu := { s.ppu with ctrl := d,
                               t := setNametableY (setNametableX s.ppu.t (d.extractLsb' 0 1)) (d.extractLsb' 1 1) } }

/-- Port 1 write (R310). -/
def maskWrite (s : State) (d : Byte) : State := { s with ppu := { s.ppu with mask := d } }

/-- Port 3 write (R311). -/
def oamAddrWrite (s : State) (d : Byte) : State := { s with ppu := { s.ppu with oamaddr := d } }

/-- Port 4 write (R305). -/
def oamDataWrite (s : State) (d : Byte) : State :=
  { s with ppu := { s.ppu with oam := s.ppu.oam.write s.ppu.oamaddr.toNat d, oamaddr := s.ppu.oamaddr + 1#8 } }

/-- Port 5 write (R306): first write fine X and coarse X, second write fine Y and coarse Y. -/
def scrollWrite (s : State) (d : Byte) : State :=
  if s.ppu.w then
    { s with ppu := { s.ppu with t := setCoarseY (setFineY s.ppu.t (d.extractLsb' 0 3)) (d.extractLsb' 3 5),
                                 w := false } }
  else
    { s with ppu := { s.ppu with fx := d.extractLsb' 0 3, t := setCoarseX s.ppu.t (d.extractLsb' 3 5), w := true } }

/-- Port 6 write (R307): first write the high six bits of `t` (bit 14 becomes 0), second write the low byte and the
copy to `v`. -/
def addressWrite (s : State) (d : Byte) : State :=
  if s.ppu.w then
    let t := (s.ppu.t &&& 0x7F00#15) ||| d.setWidth 15
    { s with ppu := { s.ppu with t := t, v := t, w := false } }
  else
    { s with ppu := { s.ppu with t := ((d &&& 0x3F#8).setWidth 15 <<< 8) ||| (s.ppu.t &&& 0x00FF#15), w := true } }

/-- Port 7 write (R309). -/
def dataWrite (s : State) (d : Byte) : State :=
  let s' := ppuWrite s s.ppu.dataAddr d
  { s' with ppu := { s'.ppu with v := s.ppu.v + s.ppu.increment } }

/-- `PpuPortRead(n)` (R302). -/
def ppuPortRead (s : State) (n : Nat) : Byte × State :=
  match n with
  | 2 => statusRead s
  | 4 => oamDataRead s
  | 7 => dataRead s
  | _ => (0#8, s)

/-- `PpuPortWrite(n, d)` (R302). -/
def ppuPortWrite (s : State) (n : Nat) (d : Byte) : State :=
  match n with
  | 0 => controlWrite s d
  | 1 => maskWrite s d
  | 3 => oamAddrWrite s d
  | 4 => oamDataWrite s d
  | 5 => scrollWrite s d
  | 6 => addressWrite s d
  | 7 => dataWrite s d
  | _ => s

/-- What `BusPeek` returns for port `n` (R88; log 12): what the read would return, with no change. -/
def ppuPortPeek (s : State) (n : Nat) : Byte :=
  match n with
  | 2 => s.ppu.statusByte
  | 4 => s.ppu.oam.read s.ppu.oamaddr.toNat
  | 7 => if 0x3F00 ≤ s.ppu.dataAddr.toNat then ppuPeek s s.ppu.dataAddr else s.ppu.rdbuf
  | _ => 0#8

end Sys2Proof.Machine
end

