-- ==== Sys2Proof/Machine/Bus.lean ====
section
/-! DEFINITION. The Bus as the CPU sees it: address decoding, console RAM, the controller ports and the DMA trigger
(rules R78 to R88, R400, R401). -/

namespace Sys2Proof.Machine

/-- `Cart.cpuRead(a)` (R82). -/
def cartCpuRead (s : State) (a : Addr) : Option Byte :=
  match s.mapper.cpuMapRead s.cart s.mapperRam a with
  | .mapped o => some (s.cart.prg.read o)
  | .direct v => some v
  | .declined => none

/-- `Cart.cpuWrite(a, d)` (R82, R421): the machine after a claimed write, or none where the cartridge declines. -/
def cartCpuWrite (s : State) (a : Addr) (d : Byte) : Option State :=
  if 0x8000 ≤ a.toNat then some { s with mapper := s.mapper.writeReg a d }
  else if 0x6000 ≤ a.toNat && s.mapper.hasRam then
    some { s with mapperRam := s.mapperRam.write (a.toNat % 0x2000) d }
  else none

/-- `CtlRead(0)` and `CtlRead(1)` (R401): bit 7, and the register shifted left. -/
def ctlRead (s : State) (i : Nat) : Byte × State :=
  if i = 0 then (s.ctlShift0 >>> 7, { s with ctlShift0 := s.ctlShift0 <<< 1 })
  else (s.ctlShift1 >>> 7, { s with ctlShift1 := s.ctlShift1 <<< 1 })

/-- `CtlWrite(0)` and `CtlWrite(1)` (R400): the host's byte is copied, whatever the data written. -/
def ctlWrite (s : State) (i : Nat) : State :=
  if i = 0 then { s with ctlShift0 := s.ctlIn0 } else { s with ctlShift1 := s.ctlIn1 }

/-- `DmaArm(v)` (R86). -/
def dmaArm (s : State) (v : Byte) : State :=
  { s with dma := { s.dma with page := v, off := 0#8, active := true } }

/-- `BusRead(a)` (R80). -/
def busRead (s : State) (a : Addr) : Byte × State :=
  match cartCpuRead s a with
  | some v => (v, s)
  | none =>
    if a.toNat ≤ 0x1FFF then (s.ram.read (a.toNat % 0x800), s)
    else if a.toNat ≤ 0x3FFF then ppuPortRead s (a.toNat % 8)
    else if a.toNat = 0x4016 ∨ a.toNat = 0x4017 then ctlRead s (a.toNat % 2)
    else (0#8, s)

/-- `BusWrite(a, d)` (R81). -/
def busWrite (s : State) (a : Addr) (d : Byte) : State :=
  match cartCpuWrite s a d with
  | some s' => s'
  | none =>
    if a.toNat ≤ 0x1FFF then { s with ram := s.ram.write (a.toNat % 0x800) d }
    else if a.toNat ≤ 0x3FFF then ppuPortWrite s (a.toNat % 8) d
    else if a.toNat = 0x4014 then dmaArm s d
    else if a.toNat = 0x4016 ∨ a.toNat = 0x4017 then ctlWrite s (a.toNat % 2)
    else s

/-- `BusPeek(a)`, the side-effect-free read (R88). -/
def busPeek (s : State) (a : Addr) : Byte :=
  match cartCpuRead s a with
  | some v => v
  | none =>
    if a.toNat ≤ 0x1FFF then s.ram.read (a.toNat % 0x800)
    else if a.toNat ≤ 0x3FFF then ppuPortPeek s (a.toNat % 8)
    else if a.toNat = 0x4016 then s.ctlShift0 >>> 7
    else if a.toNat = 0x4017 then s.ctlShift1 >>> 7
    else 0#8

/-- The addresses whose read has a side effect with the reference variants (R77): the PPU ports and the controller
ports. -/
def isDevice (a : Addr) : Bool :=
  decide (0x2000 ≤ a.toNat ∧ a.toNat ≤ 0x3FFF) || decide (a.toNat = 0x4016 ∨ a.toNat = 0x4017)

end Sys2Proof.Machine
end

