-- ==== Sys2Proof/Machine/Flags.lean ====
section
/-! DEFINITION. The status register's bits and every flag computation (rules R12, R24, R178, R191, R192, R200, R259 to
R262). -/

namespace Sys2Proof.Machine

/-- The flags of `P` (R24). -/
inductive Flag where
  | C | Z | I | D | B | U | V | N
  deriving DecidableEq, Repr

/-- The bit number of a flag (R24). -/
def Flag.bit : Flag → Nat
  | .C => 0
  | .Z => 1
  | .I => 2
  | .D => 3
  | .B => 4
  | .U => 5
  | .V => 6
  | .N => 7

/-- A flag of a status byte. -/
def getFlag (p : Byte) (f : Flag) : Bool := p.getLsbD f.bit

/-- A status byte with one flag replaced. -/
def setFlag (p : Byte) (f : Flag) (b : Bool) : Byte := withBit p f.bit b

/-- `SetZN(v)` on a status byte (R12). -/
def znFlags (p v : Byte) : Byte := setFlag (setFlag p .Z (decide (v = 0#8))) .N (v.getLsbD 7)

/-- The wide sum `t` of `AddWithCarry` (R191). -/
def sumWide (a m : Byte) (c : Bool) : Nat := a.toNat + m.toNat + bitNat c

/-- The 8-bit result of `AddWithCarry` (R191). -/
def sumByte (a m : Byte) (c : Bool) : Byte := BitVec.ofNat 8 (sumWide a m c)

/-- The status byte after `AddWithCarry(m)` with accumulator `a` (R191). -/
def addFlags (p a m : Byte) : Byte :=
  let c := getFlag p .C
  let r := sumByte a m c
  let p := setFlag p .C (decide (0xFF < sumWide a m c))
  let p := setFlag p .V (decide (~~~(a ^^^ m) &&& (a ^^^ r) &&& 0x80#8 ≠ 0#8))
  znFlags p r

/-- The status byte after `Compare(r, m)` (R192). -/
def compareFlags (p r m : Byte) : Byte :=
  setFlag (setFlag (setFlag p .C (decide (m.toNat ≤ r.toNat))) .Z (decide (r = m))) .N ((r - m).getLsbD 7)

/-- The status byte after BIT of `m` with accumulator `a` (R178). -/
def bitFlags (p a m : Byte) : Byte :=
  setFlag (setFlag (setFlag p .Z (decide (a &&& m = 0#8))) .N (m.getLsbD 7)) .V (m.getLsbD 6)

/-- The result of a shift function and the carry it leaves. -/
structure Shifted where
  val : Byte
  carry : Bool
  deriving DecidableEq, Repr

/-- `Asl` (R200). -/
def asl (m : Byte) (_cin : Bool) : Shifted := ⟨m <<< 1, m.getLsbD 7⟩

/-- `Lsr` (R200). -/
def lsr (m : Byte) (_cin : Bool) : Shifted := ⟨m >>> 1, m.getLsbD 0⟩

/-- `Rol` (R200). -/
def rol (m : Byte) (cin : Bool) : Shifted := ⟨withBit (m <<< 1) 0 cin, m.getLsbD 7⟩

/-- `Ror` (R200). -/
def ror (m : Byte) (cin : Bool) : Shifted := ⟨withBit (m >>> 1) 7 cin, m.getLsbD 0⟩

/-- C from a shift, Z and N from its result (R200). -/
def shiftFlags (p : Byte) (r : Shifted) : Byte := znFlags (setFlag p .C r.carry) r.val

/-- ANC: Z and N from the result, C its bit 7 (R259). -/
def ancFlags (p v : Byte) : Byte := setFlag (znFlags p v) .C (v.getLsbD 7)

/-- ARR: Z and N from the result, C its bit 6, V bit 6 xor bit 5 (R261). -/
def arrFlags (p v : Byte) : Byte :=
  setFlag (setFlag (znFlags p v) .C (v.getLsbD 6)) .V (v.getLsbD 6 ^^ v.getLsbD 5)

/-- AXS: C as a compare of `t` with `m`, Z and N from the difference (R262). -/
def axsFlags (p t m : Byte) : Byte := znFlags (setFlag p .C (decide (m.toNat ≤ t.toNat))) (t - m)

/-- The status byte PHP and BRK push: B = 1, U = 1 (R26, R231, R214). -/
def pushedByInstr (p : Byte) : Byte := p ||| 0x30#8

/-- The status byte interrupt entry pushes: B = 0, U = 1 (R26, R474). -/
def pushedByInterrupt (p : Byte) : Byte := (p &&& 0xEF#8) ||| 0x20#8

/-- The status PLP and RTI load from a pulled byte: bit 5 forced to 1, bit 4 stays 0 (R25, R26, R213, R233). -/
def pulledStatus (v : Byte) : Byte := (v &&& 0xCF#8) ||| 0x20#8

end Sys2Proof.Machine
end

