-- ==== Sys2Proof/Machine/Ops.lean ====
section
/-! DEFINITION. The named operations over the CPU's registers and its memory: register writes, flags, the stack, 16-bit
reads, taking an interrupt and returning from one (rules R11, R12, R213, R214, R471 to R476). -/

namespace Sys2Proof.Machine

/-! ### Registers -/

/-- `A <- v`. -/
def State.setA (s : State) (v : Byte) : State := { s with cpu := { s.cpu with a := v } }

/-- `X <- v`. -/
def State.setX (s : State) (v : Byte) : State := { s with cpu := { s.cpu with x := v } }

/-- `Y <- v`. -/
def State.setY (s : State) (v : Byte) : State := { s with cpu := { s.cpu with y := v } }

/-- `S <- v`. -/
def State.setSp (s : State) (v : Byte) : State := { s with cpu := { s.cpu with sp := v } }

/-- `P <- v`. -/
def State.setP (s : State) (v : Byte) : State := { s with cpu := { s.cpu with p := v } }

/-- `PC <- v`. -/
def State.setPc (s : State) (v : Addr) : State := { s with cpu := { s.cpu with pc := v } }

/-- `cpu.cyc <- n`. -/
def State.setCyc (s : State) (n : Nat) : State := { s with cpu := { s.cpu with cyc := n } }

/-- `cpu.halted <- b`. -/
def State.setHalted (s : State) (b : Bool) : State := { s with cpu := { s.cpu with halted := b } }

/-- `cpu.cyc <- cpu.cyc + n`. -/
def State.addCyc (s : State) (n : Nat) : State := s.setCyc (s.cpu.cyc + n)

/-- A flag of `P`. -/
def State.flag (s : State) (f : Flag) : Bool := getFlag s.cpu.p f

/-- `P.f <- b`. -/
def State.putFlag (s : State) (f : Flag) (b : Bool) : State := s.setP (setFlag s.cpu.p f b)

/-- `SetZN(v)` (R12). -/
def State.setZN (s : State) (v : Byte) : State := s.setP (znFlags s.cpu.p v)

/-! ### The stack and 16-bit reads (R11, R12, R23) -/

/-- The address of stack slot `S`: `0x0100 | S`. -/
def stackAddr (sp : Byte) : Addr := cat 0x01#8 sp

/-- `Push8(v)`: store at the free slot, then decrement `S`. -/
def push8 (s : State) (v : Byte) : State :=
  (busWrite s (stackAddr s.cpu.sp) v).setSp (s.cpu.sp - 1#8)

/-- `Pop8()`: increment `S`, then load. -/
def pop8 (s : State) : Byte × State :=
  busRead (s.setSp (s.cpu.sp + 1#8)) (stackAddr (s.cpu.sp + 1#8))

/-- `Push16(w)`: high byte first. -/
def push16 (s : State) (w : Addr) : State := push8 (push8 s (hi w)) (lo w)

/-- `Pop16()`: low byte first. -/
def pop16 (s : State) : Addr × State :=
  let l := pop8 s
  let h := pop8 l.2
  (cat h.1 l.1, h.2)

/-- `Read16(a)`: low byte at `a` first, then the high byte at `a + 1` modulo 2^16. -/
def read16 (s : State) (a : Addr) : Addr × State :=
  let l := busRead s a
  let h := busRead l.2 (a + 1#16)
  (cat h.1 l.1, h.2)

/-! ### Exceptions (60_exceptions.md) -/

/-- The NMI vector (R79). -/
def nmiVector : Addr := 0xFFFA#16

/-- The reset vector (R79). -/
def resetVector : Addr := 0xFFFC#16

/-- The vector of IRQ and BRK (R79). -/
def irqVector : Addr := 0xFFFE#16

/-- Taking an exception, the sequence that BRK, NMI and IRQ share (R214, R474): push the return address `ret` (high byte
first), push the status byte `status`, set `I`, load `PC` from `vector`. -/
def takeException (s : State) (ret : Addr) (status : Byte) (vector : Addr) : State :=
  let r := read16 ((push8 (push16 s ret) status).putFlag .I true) vector
  r.2.setPc r.1

/-- `InterruptEntry(vector)` (R474): B = 0 in the pushed status, seven cycles added to those still owed. -/
def interruptEntry (s : State) (vector : Addr) : State :=
  (takeException s s.cpu.pc (pushedByInterrupt s.cpu.p) vector).addCyc 7

/-- `CPU.nmi()` (R471, R475). -/
def cpuNmi (s : State) : State := if s.cpu.halted then s else interruptEntry s nmiVector

/-- `CPU.irq()` (R472, R475): dropped while halted or while `I` is set. -/
def cpuIrq (s : State) : State :=
  if s.cpu.halted then s else if s.flag .I then s else interruptEntry s irqVector

/-- BRK's entry (R214, R476): the return address skips the byte after the opcode, B = 1 in the pushed status. -/
def breakEntry (s : State) : State :=
  takeException s (s.cpu.pc + 1#16) (pushedByInstr s.cpu.p) irqVector

/-- The return from an exception, RTI's operation (R213, R481): pull the status, then the `PC`, with no increment. -/
def returnFromException (s : State) : State :=
  let v := pop8 s
  let r := pop16 (v.2.setP (pulledStatus v.1))
  r.2.setPc r.1

/-- `complete()` (R29, R131). -/
def complete (s : State) : Bool := decide (s.cpu.cyc = 0)

end Sys2Proof.Machine
end

