-- ==== Sys2Proof/Machine/Operands.lean ====
section
/-! DEFINITION. The twelve addressing modes (rules R134 to R147) and the frame of an instruction (rules R130, R133). The
operand bytes have been fetched when an operand is resolved: they stand in the `Operand`, and `PC` is past them (log
16). -/

namespace Sys2Proof.Machine

/-- Where an instruction's operand is. -/
inductive Loc where
  /-- No address: mode IMP; the shifts then operate on `A` (R134). -/
  | none
  /-- The immediate byte, the second byte of the instruction (R135). -/
  | value (v : Byte)
  /-- The effective address `ea`. -/
  | mem (ea : Addr)
  deriving DecidableEq, Repr

/-- What `Resolve(mode)` returns (R130): the place of the operand, whether the indexed address is in another page than
its base, and the high byte of the unindexed address. -/
structure Resolved where
  loc : Loc
  crossed : Bool
  baseHi : Byte
  deriving DecidableEq, Repr

/-- The effective address, for the modes that have one. -/
def Resolved.ea (r : Resolved) : Addr :=
  match r.loc with
  | .mem ea => ea
  | _ => 0#16

/-- A resolution at `ea` that reports no crossing. -/
def Resolved.at (ea : Addr) : Resolved := ⟨.mem ea, false, 0#8⟩

/-- A resolution at `base` indexed by `i` (R141, R144, R145, R146). -/
def Resolved.indexed (base : Addr) (i : Byte) : Resolved :=
  let ea := base + zext i
  ⟨.mem ea, decide (hi ea ≠ hi base), hi base⟩

/-- The word at the zero-page pointer `p`, low byte first; the high byte comes from `p + 1` within the zero page (R140,
R141). -/
def zeroPagePointer (s : State) (p : Byte) : Addr × State :=
  let l := busRead s (zext p)
  let h := busRead l.2 (zext (p + 1#8))
  (cat h.1 l.1, h.2)

/-- The word at the pointer `a` of JMP indirect; the high byte comes from the same page as the low byte (R142). -/
def samePagePointer (s : State) (a : Addr) : Addr × State :=
  let l := busRead s a
  let h := busRead l.2 (cat (hi a) (lo a + 1#8))
  (cat h.1 l.1, h.2)

/-- `Resolve(mode)` (R134 to R145), after the operand bytes. -/
def resolve (s : State) (o : Operand) : Resolved × State :=
  match o with
  | .imp => (⟨.none, false, 0#8⟩, s)
  | .imm d => (⟨.value d, false, 0#8⟩, s)
  | .zp0 d => (.at (zext d), s)
  | .zpx d => (.at (zext (d + s.cpu.x)), s)
  | .zpy d => (.at (zext (d + s.cpu.y)), s)
  | .rel d => (.at (s.cpu.pc + sext d), s)
  | .izx d =>
    let q := zeroPagePointer s (d + s.cpu.x)
    (.at q.1, q.2)
  | .izy d =>
    let q := zeroPagePointer s d
    (.indexed q.1 s.cpu.y, q.2)
  | .ind a =>
    let q := samePagePointer s a
    (.at q.1, q.2)
  | .abs a => (.at a, s)
  | .abx a => (.indexed a s.cpu.x, s)
  | .aby a => (.indexed a s.cpu.y, s)

/-- `M`: the operand byte (R14). -/
def readOperand (s : State) (r : Resolved) : Byte × State :=
  match r.loc with
  | .none => (s.cpu.a, s)
  | .value v => (v, s)
  | .mem ea => busRead s ea

/-- The write of an operand's place: `A` in mode IMP, memory at `ea` (R200). An immediate has no place to write. -/
def writeOperand (s : State) (r : Resolved) (v : Byte) : State :=
  match r.loc with
  | .none => s.setA v
  | .value _ => s
  | .mem ea => busWrite s ea v

/-- The frame of every instruction (R130, R133): `cpu.cyc <- base`, resolve, operate, and one more cycle when the
indexed address crosses a page and the operation may need it (`extra`). -/
def runInstr (base : Nat) (extra : Bool) (o : Operand) (body : State → Resolved → State) (s : State) : State :=
  let q := resolve (s.setCyc base) o
  (body q.2 q.1).addCyc (bitNat (q.1.crossed && extra))

end Sys2Proof.Machine
end

