-- ==== Sys2Proof/Machine/Arith.lean ====
section
/-! DEFINITION. Arithmetic, logic, compare, increment and decrement (spec/42_arithmetic_logic.md, rules R170 to R192). Each
opcode's meaning is one line over its instruction's operation. -/

namespace Sys2Proof.Machine

/-- `AddWithCarry(m)` (R191). -/
def addWithCarry (s : State) (m : Byte) : State :=
  (s.setA (sumByte s.cpu.a m (s.flag .C))).setP (addFlags s.cpu.p s.cpu.a m)

/-- `Compare(r, m)` (R192). -/
def compareWith (s : State) (reg m : Byte) : State := s.setP (compareFlags s.cpu.p reg m)

/-- `A <- v; SetZN(A)`. -/
def loadA (s : State) (v : Byte) : State := (s.setA v).setZN v

/-- ADC (R170): `AddWithCarry(M)`. -/
def opAdc (o : Operand) (base : Nat) (s : State) : State :=
  runInstr base true o (fun s r =>
    let m := readOperand s r
    addWithCarry m.2 m.1) s

/-- SBC (R171, and R263 for opcode 0xEB): `AddWithCarry(M ^ 0xFF)`. -/
def opSbc (o : Operand) (base : Nat) (s : State) : State :=
  runInstr base true o (fun s r =>
    let m := readOperand s r
    addWithCarry m.2 (m.1 ^^^ 0xFF#8)) s

/-- AND (R172): `A <- A & M; SetZN(A)`. -/
def opAnd (o : Operand) (base : Nat) (s : State) : State :=
  runInstr base true o (fun s r =>
    let m := readOperand s r
    loadA m.2 (m.2.cpu.a &&& m.1)) s

/-- ORA (R173): `A <- A | M; SetZN(A)`. -/
def opOra (o : Operand) (base : Nat) (s : State) : State :=
  runInstr base true o (fun s r =>
    let m := readOperand s r
    loadA m.2 (m.2.cpu.a ||| m.1)) s

/-- EOR (R174): `A <- A ^ M; SetZN(A)`. -/
def opEor (o : Operand) (base : Nat) (s : State) : State :=
  runInstr base true o (fun s r =>
    let m := readOperand s r
    loadA m.2 (m.2.cpu.a ^^^ m.1)) s

/-- CMP (R175): `Compare(A, M)`. -/
def opCmp (o : Operand) (base : Nat) (s : State) : State :=
  runInstr base true o (fun s r =>
    let m := readOperand s r
    compareWith m.2 m.2.cpu.a m.1) s

/-- CPX (R176): `Compare(X, M)`. -/
def opCpx (o : Operand) (base : Nat) (s : State) : State :=
  runInstr base false o (fun s r =>
    let m := readOperand s r
    compareWith m.2 m.2.cpu.x m.1) s

/-- CPY (R177): `Compare(Y, M)`. -/
def opCpy (o : Operand) (base : Nat) (s : State) : State :=
  runInstr base false o (fun s r =>
    let m := readOperand s r
    compareWith m.2 m.2.cpu.y m.1) s

/-- BIT (R178): Z from `A & M`, N and V from bits 7 and 6 of `M`. -/
def opBit (o : Operand) (base : Nat) (s : State) : State :=
  runInstr base false o (fun s r =>
    let m := readOperand s r
    m.2.setP (bitFlags m.2.cpu.p m.2.cpu.a m.1)) s

/-- INC (R179): one read, one write of `M + 1`, SetZN. -/
def opInc (o : Operand) (base : Nat) (s : State) : State :=
  runInstr base false o (fun s r =>
    let m := readOperand s r
    (writeOperand m.2 r (m.1 + 1#8)).setZN (m.1 + 1#8)) s

/-- DEC (R180): one read, one write of `M - 1`, SetZN. -/
def opDec (o : Operand) (base : Nat) (s : State) : State :=
  runInstr base false o (fun s r =>
    let m := readOperand s r
    (writeOperand m.2 r (m.1 - 1#8)).setZN (m.1 - 1#8)) s

/-- INX (R181): `X <- X + 1; SetZN(X)`. -/
def opInx (o : Operand) (base : Nat) (s : State) : State :=
  runInstr base false o (fun s _ => (s.setX (s.cpu.x + 1#8)).setZN (s.cpu.x + 1#8)) s

/-- INY (R182): `Y <- Y + 1; SetZN(Y)`. -/
def opIny (o : Operand) (base : Nat) (s : State) : State :=
  runInstr base false o (fun s _ => (s.setY (s.cpu.y + 1#8)).setZN (s.cpu.y + 1#8)) s

/-- DEX (R183): `X <- X - 1; SetZN(X)`. -/
def opDex (o : Operand) (base : Nat) (s : State) : State :=
  runInstr base false o (fun s _ => (s.setX (s.cpu.x - 1#8)).setZN (s.cpu.x - 1#8)) s

/-- DEY (R184): `Y <- Y - 1; SetZN(Y)`. -/
def opDey (o : Operand) (base : Nat) (s : State) : State :=
  runInstr base false o (fun s _ => (s.setY (s.cpu.y - 1#8)).setZN (s.cpu.y - 1#8)) s

/-- 0x61, IZX, 6 cycles (R170). -/
def execAdcIzx (d : Byte) (s : State) : Result := .next (opAdc (.izx d) 6 s)

/-- 0x65, ZP0, 3 cycles (R170). -/
def execAdcZp0 (d : Byte) (s : State) : Result := .next (opAdc (.zp0 d) 3 s)

/-- 0x69, IMM, 2 cycles (R170). -/
def execAdcImm (d : Byte) (s : State) : Result := .next (opAdc (.imm d) 2 s)

/-- 0x6D, ABS, 4 cycles (R170). -/
def execAdcAbs (a : Addr) (s : State) : Result := .next (opAdc (.abs a) 4 s)

/-- 0x71, IZY, 5 cycles (R170). -/
def execAdcIzy (d : Byte) (s : State) : Result := .next (opAdc (.izy d) 5 s)

/-- 0x75, ZPX, 4 cycles (R170). -/
def execAdcZpx (d : Byte) (s : State) : Result := .next (opAdc (.zpx d) 4 s)

/-- 0x79, ABY, 4 cycles (R170). -/
def execAdcAby (a : Addr) (s : State) : Result := .next (opAdc (.aby a) 4 s)

/-- 0x7D, ABX, 4 cycles (R170). -/
def execAdcAbx (a : Addr) (s : State) : Result := .next (opAdc (.abx a) 4 s)

/-- 0xE1, IZX, 6 cycles (R171). -/
def execSbcIzx (d : Byte) (s : State) : Result := .next (opSbc (.izx d) 6 s)

/-- 0xE5, ZP0, 3 cycles (R171). -/
def execSbcZp0 (d : Byte) (s : State) : Result := .next (opSbc (.zp0 d) 3 s)

/-- 0xE9, IMM, 2 cycles (R171). -/
def execSbcImm (d : Byte) (s : State) : Result := .next (opSbc (.imm d) 2 s)

/-- 0xEB, IMM, 2 cycles (R263). -/
def execSbcImmEB (d : Byte) (s : State) : Result := .next (opSbc (.imm d) 2 s)

/-- 0xED, ABS, 4 cycles (R171). -/
def execSbcAbs (a : Addr) (s : State) : Result := .next (opSbc (.abs a) 4 s)

/-- 0xF1, IZY, 5 cycles (R171). -/
def execSbcIzy (d : Byte) (s : State) : Result := .next (opSbc (.izy d) 5 s)

/-- 0xF5, ZPX, 4 cycles (R171). -/
def execSbcZpx (d : Byte) (s : State) : Result := .next (opSbc (.zpx d) 4 s)

/-- 0xF9, ABY, 4 cycles (R171). -/
def execSbcAby (a : Addr) (s : State) : Result := .next (opSbc (.aby a) 4 s)

/-- 0xFD, ABX, 4 cycles (R171). -/
def execSbcAbx (a : Addr) (s : State) : Result := .next (opSbc (.abx a) 4 s)

/-- 0x21, IZX, 6 cycles (R172). -/
def execAndIzx (d : Byte) (s : State) : Result := .next (opAnd (.izx d) 6 s)

/-- 0x25, ZP0, 3 cycles (R172). -/
def execAndZp0 (d : Byte) (s : State) : Result := .next (opAnd (.zp0 d) 3 s)

/-- 0x29, IMM, 2 cycles (R172). -/
def execAndImm (d : Byte) (s : State) : Result := .next (opAnd (.imm d) 2 s)

/-- 0x2D, ABS, 4 cycles (R172). -/
def execAndAbs (a : Addr) (s : State) : Result := .next (opAnd (.abs a) 4 s)

/-- 0x31, IZY, 5 cycles (R172). -/
def execAndIzy (d : Byte) (s : State) : Result := .next (opAnd (.izy d) 5 s)

/-- 0x35, ZPX, 4 cycles (R172). -/
def execAndZpx (d : Byte) (s : State) : Result := .next (opAnd (.zpx d) 4 s)

/-- 0x39, ABY, 4 cycles (R172). -/
def execAndAby (a : Addr) (s : State) : Result := .next (opAnd (.aby a) 4 s)

/-- 0x3D, ABX, 4 cycles (R172). -/
def execAndAbx (a : Addr) (s : State) : Result := .next (opAnd (.abx a) 4 s)

/-- 0x01, IZX, 6 cycles (R173). -/
def execOraIzx (d : Byte) (s : State) : Result := .next (opOra (.izx d) 6 s)

/-- 0x05, ZP0, 3 cycles (R173). -/
def execOraZp0 (d : Byte) (s : State) : Result := .next (opOra (.zp0 d) 3 s)

/-- 0x09, IMM, 2 cycles (R173). -/
def execOraImm (d : Byte) (s : State) : Result := .next (opOra (.imm d) 2 s)

/-- 0x0D, ABS, 4 cycles (R173). -/
def execOraAbs (a : Addr) (s : State) : Result := .next (opOra (.abs a) 4 s)

/-- 0x11, IZY, 5 cycles (R173). -/
def execOraIzy (d : Byte) (s : State) : Result := .next (opOra (.izy d) 5 s)

/-- 0x15, ZPX, 4 cycles (R173). -/
def execOraZpx (d : Byte) (s : State) : Result := .next (opOra (.zpx d) 4 s)

/-- 0x19, ABY, 4 cycles (R173). -/
def execOraAby (a : Addr) (s : State) : Result := .next (opOra (.aby a) 4 s)

/-- 0x1D, ABX, 4 cycles (R173). -/
def execOraAbx (a : Addr) (s : State) : Result := .next (opOra (.abx a) 4 s)

/-- 0x41, IZX, 6 cycles (R174). -/
def execEorIzx (d : Byte) (s : State) : Result := .next (opEor (.izx d) 6 s)

/-- 0x45, ZP0, 3 cycles (R174). -/
def execEorZp0 (d : Byte) (s : State) : Result := .next (opEor (.zp0 d) 3 s)

/-- 0x49, IMM, 2 cycles (R174). -/
def execEorImm (d : Byte) (s : State) : Result := .next (opEor (.imm d) 2 s)

/-- 0x4D, ABS, 4 cycles (R174). -/
def execEorAbs (a : Addr) (s : State) : Result := .next (opEor (.abs a) 4 s)

/-- 0x51, IZY, 5 cycles (R174). -/
def execEorIzy (d : Byte) (s : State) : Result := .next (opEor (.izy d) 5 s)

/-- 0x55, ZPX, 4 cycles (R174). -/
def execEorZpx (d : Byte) (s : State) : Result := .next (opEor (.zpx d) 4 s)

/-- 0x59, ABY, 4 cycles (R174). -/
def execEorAby (a : Addr) (s : State) : Result := .next (opEor (.aby a) 4 s)

/-- 0x5D, ABX, 4 cycles (R174). -/
def execEorAbx (a : Addr) (s : State) : Result := .next (opEor (.abx a) 4 s)

/-- 0xC1, IZX, 6 cycles (R175). -/
def execCmpIzx (d : Byte) (s : State) : Result := .next (opCmp (.izx d) 6 s)

/-- 0xC5, ZP0, 3 cycles (R175). -/
def execCmpZp0 (d : Byte) (s : State) : Result := .next (opCmp (.zp0 d) 3 s)

/-- 0xC9, IMM, 2 cycles (R175). -/
def execCmpImm (d : Byte) (s : State) : Result := .next (opCmp (.imm d) 2 s)

/-- 0xCD, ABS, 4 cycles (R175). -/
def execCmpAbs (a : Addr) (s : State) : Result := .next (opCmp (.abs a) 4 s)

/-- 0xD1, IZY, 5 cycles (R175). -/
def execCmpIzy (d : Byte) (s : State) : Result := .next (opCmp (.izy d) 5 s)

/-- 0xD5, ZPX, 4 cycles (R175). -/
def execCmpZpx (d : Byte) (s : State) : Result := .next (opCmp (.zpx d) 4 s)

/-- 0xD9, ABY, 4 cycles (R175). -/
def execCmpAby (a : Addr) (s : State) : Result := .next (opCmp (.aby a) 4 s)

/-- 0xDD, ABX, 4 cycles (R175). -/
def execCmpAbx (a : Addr) (s : State) : Result := .next (opCmp (.abx a) 4 s)

/-- 0xE0, IMM, 2 cycles (R176). -/
def execCpxImm (d : Byte) (s : State) : Result := .next (opCpx (.imm d) 2 s)

/-- 0xE4, ZP0, 3 cycles (R176). -/
def execCpxZp0 (d : Byte) (s : State) : Result := .next (opCpx (.zp0 d) 3 s)

/-- 0xEC, ABS, 4 cycles (R176). -/
def execCpxAbs (a : Addr) (s : State) : Result := .next (opCpx (.abs a) 4 s)

/-- 0xC0, IMM, 2 cycles (R177). -/
def execCpyImm (d : Byte) (s : State) : Result := .next (opCpy (.imm d) 2 s)

/-- 0xC4, ZP0, 3 cycles (R177). -/
def execCpyZp0 (d : Byte) (s : State) : Result := .next (opCpy (.zp0 d) 3 s)

/-- 0xCC, ABS, 4 cycles (R177). -/
def execCpyAbs (a : Addr) (s : State) : Result := .next (opCpy (.abs a) 4 s)

/-- 0x24, ZP0, 3 cycles (R178). -/
def execBitZp0 (d : Byte) (s : State) : Result := .next (opBit (.zp0 d) 3 s)

/-- 0x2C, ABS, 4 cycles (R178). -/
def execBitAbs (a : Addr) (s : State) : Result := .next (opBit (.abs a) 4 s)

/-- 0xE6, ZP0, 5 cycles (R179). -/
def execIncZp0 (d : Byte) (s : State) : Result := .next (opInc (.zp0 d) 5 s)

/-- 0xEE, ABS, 6 cycles (R179). -/
def execIncAbs (a : Addr) (s : State) : Result := .next (opInc (.abs a) 6 s)

/-- 0xF6, ZPX, 6 cycles (R179). -/
def execIncZpx (d : Byte) (s : State) : Result := .next (opInc (.zpx d) 6 s)

/-- 0xFE, ABX, 7 cycles (R179). -/
def execIncAbx (a : Addr) (s : State) : Result := .next (opInc (.abx a) 7 s)

/-- 0xC6, ZP0, 5 cycles (R180). -/
def execDecZp0 (d : Byte) (s : State) : Result := .next (opDec (.zp0 d) 5 s)

/-- 0xCE, ABS, 6 cycles (R180). -/
def execDecAbs (a : Addr) (s : State) : Result := .next (opDec (.abs a) 6 s)

/-- 0xD6, ZPX, 6 cycles (R180). -/
def execDecZpx (d : Byte) (s : State) : Result := .next (opDec (.zpx d) 6 s)

/-- 0xDE, ABX, 7 cycles (R180). -/
def execDecAbx (a : Addr) (s : State) : Result := .next (opDec (.abx a) 7 s)

/-- 0xE8, IMP, 2 cycles (R181). -/
def execInxImp (s : State) : Result := .next (opInx .imp 2 s)

/-- 0xC8, IMP, 2 cycles (R182). -/
def execInyImp (s : State) : Result := .next (opIny .imp 2 s)

/-- 0xCA, IMP, 2 cycles (R183). -/
def execDexImp (s : State) : Result := .next (opDex .imp 2 s)

/-- 0x88, IMP, 2 cycles (R184). -/
def execDeyImp (s : State) : Result := .next (opDey .imp 2 s)

end Sys2Proof.Machine
end

