-- ==== Sys2Proof/Machine/Control.lean ====
section
/-! DEFINITION. Control transfer (spec/44_control_flow.md, rules R210 to R229). Each
opcode's meaning is one line over its instruction's operation. -/

namespace Sys2Proof.Machine

/-- `Branch(cond, ea)` (R215): one more cycle when taken, a second when the target's page is not that of the next
instruction. -/
def branch (s : State) (cond : Bool) (r : Resolved) : State :=
  if cond then (s.addCyc (if hi r.ea ≠ hi s.cpu.pc then 2 else 1)).setPc r.ea else s

/-- JMP (R210): `PC <- ea`. -/
def opJmp (o : Operand) (base : Nat) (s : State) : State :=
  runInstr base false o (fun s r => s.setPc r.ea) s

/-- JSR (R211): `Push16(PC - 1); PC <- ea`. -/
def opJsr (o : Operand) (base : Nat) (s : State) : State :=
  runInstr base false o (fun s r => (push16 s (s.cpu.pc - 1#16)).setPc r.ea) s

/-- RTS (R212): `PC <- Pop16() + 1`. -/
def opRts (o : Operand) (base : Nat) (s : State) : State :=
  runInstr base false o (fun s _ =>
    let w := pop16 s
    w.2.setPc (w.1 + 1#16)) s

/-- RTI (R213): return from an exception. -/
def opRti (o : Operand) (base : Nat) (s : State) : State :=
  runInstr base false o (fun s _ => returnFromException s) s

/-- BRK (R214, R476): takes the software-interrupt exception. -/
def opBrk (o : Operand) (base : Nat) (s : State) : State :=
  runInstr base false o (fun s _ => breakEntry s) s

/-- BPL (R216): `Branch(P.N == 0, ea)`. -/
def opBpl (o : Operand) (base : Nat) (s : State) : State :=
  runInstr base false o (fun s r => branch s (!s.flag .N) r) s

/-- BMI (R217): `Branch(P.N == 1, ea)`. -/
def opBmi (o : Operand) (base : Nat) (s : State) : State :=
  runInstr base false o (fun s r => branch s (s.flag .N) r) s

/-- BVC (R218): `Branch(P.V == 0, ea)`. -/
def opBvc (o : Operand) (base : Nat) (s : State) : State :=
  runInstr base false o (fun s r => branch s (!s.flag .V) r) s

/-- BVS (R219): `Branch(P.V == 1, ea)`. -/
def opBvs (o : Operand) (base : Nat) (s : State) : State :=
  runInstr base false o (fun s r => branch s (s.flag .V) r) s

/-- BCC (R220): `Branch(P.C == 0, ea)`. -/
def opBcc (o : Operand) (base : Nat) (s : State) : State :=
  runInstr base false o (fun s r => branch s (!s.flag .C) r) s

/-- BCS (R221): `Branch(P.C == 1, ea)`. -/
def opBcs (o : Operand) (base : Nat) (s : State) : State :=
  runInstr base false o (fun s r => branch s (s.flag .C) r) s

/-- BNE (R222): `Branch(P.Z == 0, ea)`. -/
def opBne (o : Operand) (base : Nat) (s : State) : State :=
  runInstr base false o (fun s r => branch s (!s.flag .Z) r) s

/-- BEQ (R223): `Branch(P.Z == 1, ea)`. -/
def opBeq (o : Operand) (base : Nat) (s : State) : State :=
  runInstr base false o (fun s r => branch s (s.flag .Z) r) s

/-- 0x4C, ABS, 3 cycles (R210). -/
def execJmpAbs (a : Addr) (s : State) : Result := .next (opJmp (.abs a) 3 s)

/-- 0x6C, IND, 5 cycles (R210). -/
def execJmpInd (a : Addr) (s : State) : Result := .next (opJmp (.ind a) 5 s)

/-- 0x20, ABS, 6 cycles (R211). -/
def execJsrAbs (a : Addr) (s : State) : Result := .next (opJsr (.abs a) 6 s)

/-- 0x60, IMP, 6 cycles (R212). -/
def execRtsImp (s : State) : Result := .next (opRts .imp 6 s)

/-- 0x40, IMP, 6 cycles (R213). -/
def execRtiImp (s : State) : Result := .next (opRti .imp 6 s)

/-- 0x00, IMP, 7 cycles (R214). -/
def execBrkImp (s : State) : Result := .next (opBrk .imp 7 s)

/-- 0x10, REL, 2 cycles (R216). -/
def execBplRel (d : Byte) (s : State) : Result := .next (opBpl (.rel d) 2 s)

/-- 0x30, REL, 2 cycles (R217). -/
def execBmiRel (d : Byte) (s : State) : Result := .next (opBmi (.rel d) 2 s)

/-- 0x50, REL, 2 cycles (R218). -/
def execBvcRel (d : Byte) (s : State) : Result := .next (opBvc (.rel d) 2 s)

/-- 0x70, REL, 2 cycles (R219). -/
def execBvsRel (d : Byte) (s : State) : Result := .next (opBvs (.rel d) 2 s)

/-- 0x90, REL, 2 cycles (R220). -/
def execBccRel (d : Byte) (s : State) : Result := .next (opBcc (.rel d) 2 s)

/-- 0xB0, REL, 2 cycles (R221). -/
def execBcsRel (d : Byte) (s : State) : Result := .next (opBcs (.rel d) 2 s)

/-- 0xD0, REL, 2 cycles (R222). -/
def execBneRel (d : Byte) (s : State) : Result := .next (opBne (.rel d) 2 s)

/-- 0xF0, REL, 2 cycles (R223). -/
def execBeqRel (d : Byte) (s : State) : Result := .next (opBeq (.rel d) 2 s)

end Sys2Proof.Machine
end

