-- ==== Sys2Proof/Machine/Load.lean ====
section
/-! DEFINITION. Load, store and register transfer (spec/41_load_store_transfer.md, rules R150 to R161). Each
opcode's meaning is one line over its instruction's operation. -/

namespace Sys2Proof.Machine

/-- LDA (R150): `A <- M; SetZN(A)`. -/
def opLda (o : Operand) (base : Nat) (s : State) : State :=
  runInstr base true o (fun s r =>
    let m := readOperand s r
    (m.2.setA m.1).setZN m.1) s

/-- LDX (R151): `X <- M; SetZN(X)`. -/
def opLdx (o : Operand) (base : Nat) (s : State) : State :=
  runInstr base true o (fun s r =>
    let m := readOperand s r
    (m.2.setX m.1).setZN m.1) s

/-- LDY (R152): `Y <- M; SetZN(Y)`. -/
def opLdy (o : Operand) (base : Nat) (s : State) : State :=
  runInstr base true o (fun s r =>
    let m := readOperand s r
    (m.2.setY m.1).setZN m.1) s

/-- STA (R153): `MemWrite(ea, 1, A)`; the operand is not read. -/
def opSta (o : Operand) (base : Nat) (s : State) : State :=
  runInstr base false o (fun s r => writeOperand s r s.cpu.a) s

/-- STX (R154): `MemWrite(ea, 1, X)`. -/
def opStx (o : Operand) (base : Nat) (s : State) : State :=
  runInstr base false o (fun s r => writeOperand s r s.cpu.x) s

/-- STY (R155): `MemWrite(ea, 1, Y)`. -/
def opSty (o : Operand) (base : Nat) (s : State) : State :=
  runInstr base false o (fun s r => writeOperand s r s.cpu.y) s

/-- TAX (R156): `X <- A; SetZN(X)`. -/
def opTax (o : Operand) (base : Nat) (s : State) : State :=
  runInstr base false o (fun s _ => (s.setX s.cpu.a).setZN s.cpu.a) s

/-- TAY (R157): `Y <- A; SetZN(Y)`. -/
def opTay (o : Operand) (base : Nat) (s : State) : State :=
  runInstr base false o (fun s _ => (s.setY s.cpu.a).setZN s.cpu.a) s

/-- TXA (R158): `A <- X; SetZN(A)`. -/
def opTxa (o : Operand) (base : Nat) (s : State) : State :=
  runInstr base false o (fun s _ => (s.setA s.cpu.x).setZN s.cpu.x) s

/-- TYA (R159): `A <- Y; SetZN(A)`. -/
def opTya (o : Operand) (base : Nat) (s : State) : State :=
  runInstr base false o (fun s _ => (s.setA s.cpu.y).setZN s.cpu.y) s

/-- TSX (R160): `X <- S; SetZN(X)`. -/
def opTsx (o : Operand) (base : Nat) (s : State) : State :=
  runInstr base false o (fun s _ => (s.setX s.cpu.sp).setZN s.cpu.sp) s

/-- TXS (R161): `S <- X`; no flag changes. -/
def opTxs (o : Operand) (base : Nat) (s : State) : State :=
  runInstr base false o (fun s _ => s.setSp s.cpu.x) s

/-- 0xA1, IZX, 6 cycles (R150). -/
def execLdaIzx (d : Byte) (s : State) : Result := .next (opLda (.izx d) 6 s)

/-- 0xA5, ZP0, 3 cycles (R150). -/
def execLdaZp0 (d : Byte) (s : State) : Result := .next (opLda (.zp0 d) 3 s)

/-- 0xA9, IMM, 2 cycles (R150). -/
def execLdaImm (d : Byte) (s : State) : Result := .next (opLda (.imm d) 2 s)

/-- 0xAD, ABS, 4 cycles (R150). -/
def execLdaAbs (a : Addr) (s : State) : Result := .next (opLda (.abs a) 4 s)

/-- 0xB1, IZY, 5 cycles (R150). -/
def execLdaIzy (d : Byte) (s : State) : Result := .next (opLda (.izy d) 5 s)

/-- 0xB5, ZPX, 4 cycles (R150). -/
def execLdaZpx (d : Byte) (s : State) : Result := .next (opLda (.zpx d) 4 s)

/-- 0xB9, ABY, 4 cycles (R150). -/
def execLdaAby (a : Addr) (s : State) : Result := .next (opLda (.aby a) 4 s)

/-- 0xBD, ABX, 4 cycles (R150). -/
def execLdaAbx (a : Addr) (s : State) : Result := .next (opLda (.abx a) 4 s)

/-- 0xA2, IMM, 2 cycles (R151). -/
def execLdxImm (d : Byte) (s : State) : Result := .next (opLdx (.imm d) 2 s)

/-- 0xA6, ZP0, 3 cycles (R151). -/
def execLdxZp0 (d : Byte) (s : State) : Result := .next (opLdx (.zp0 d) 3 s)

/-- 0xAE, ABS, 4 cycles (R151). -/
def execLdxAbs (a : Addr) (s : State) : Result := .next (opLdx (.abs a) 4 s)

/-- 0xB6, ZPY, 4 cycles (R151). -/
def execLdxZpy (d : Byte) (s : State) : Result := .next (opLdx (.zpy d) 4 s)

/-- 0xBE, ABY, 4 cycles (R151). -/
def execLdxAby (a : Addr) (s : State) : Result := .next (opLdx (.aby a) 4 s)

/-- 0xA0, IMM, 2 cycles (R152). -/
def execLdyImm (d : Byte) (s : State) : Result := .next (opLdy (.imm d) 2 s)

/-- 0xA4, ZP0, 3 cycles (R152). -/
def execLdyZp0 (d : Byte) (s : State) : Result := .next (opLdy (.zp0 d) 3 s)

/-- 0xAC, ABS, 4 cycles (R152). -/
def execLdyAbs (a : Addr) (s : State) : Result := .next (opLdy (.abs a) 4 s)

/-- 0xB4, ZPX, 4 cycles (R152). -/
def execLdyZpx (d : Byte) (s : State) : Result := .next (opLdy (.zpx d) 4 s)

/-- 0xBC, ABX, 4 cycles (R152). -/
def execLdyAbx (a : Addr) (s : State) : Result := .next (opLdy (.abx a) 4 s)

/-- 0x81, IZX, 6 cycles (R153). -/
def execStaIzx (d : Byte) (s : State) : Result := .next (opSta (.izx d) 6 s)

/-- 0x85, ZP0, 3 cycles (R153). -/
def execStaZp0 (d : Byte) (s : State) : Result := .next (opSta (.zp0 d) 3 s)

/-- 0x8D, ABS, 4 cycles (R153). -/
def execStaAbs (a : Addr) (s : State) : Result := .next (opSta (.abs a) 4 s)

/-- 0x91, IZY, 6 cycles (R153). -/
def execStaIzy (d : Byte) (s : State) : Result := .next (opSta (.izy d) 6 s)

/-- 0x95, ZPX, 4 cycles (R153). -/
def execStaZpx (d : Byte) (s : State) : Result := .next (opSta (.zpx d) 4 s)

/-- 0x99, ABY, 5 cycles (R153). -/
def execStaAby (a : Addr) (s : State) : Result := .next (opSta (.aby a) 5 s)

/-- 0x9D, ABX, 5 cycles (R153). -/
def execStaAbx (a : Addr) (s : State) : Result := .next (opSta (.abx a) 5 s)

/-- 0x86, ZP0, 3 cycles (R154). -/
def execStxZp0 (d : Byte) (s : State) : Result := .next (opStx (.zp0 d) 3 s)

/-- 0x8E, ABS, 4 cycles (R154). -/
def execStxAbs (a : Addr) (s : State) : Result := .next (opStx (.abs a) 4 s)

/-- 0x96, ZPY, 4 cycles (R154). -/
def execStxZpy (d : Byte) (s : State) : Result := .next (opStx (.zpy d) 4 s)

/-- 0x84, ZP0, 3 cycles (R155). -/
def execStyZp0 (d : Byte) (s : State) : Result := .next (opSty (.zp0 d) 3 s)

/-- 0x8C, ABS, 4 cycles (R155). -/
def execStyAbs (a : Addr) (s : State) : Result := .next (opSty (.abs a) 4 s)

/-- 0x94, ZPX, 4 cycles (R155). -/
def execStyZpx (d : Byte) (s : State) : Result := .next (opSty (.zpx d) 4 s)

/-- 0xAA, IMP, 2 cycles (R156). -/
def execTaxImp (s : State) : Result := .next (opTax .imp 2 s)

/-- 0xA8, IMP, 2 cycles (R157). -/
def execTayImp (s : State) : Result := .next (opTay .imp 2 s)

/-- 0x8A, IMP, 2 cycles (R158). -/
def execTxaImp (s : State) : Result := .next (opTxa .imp 2 s)

/-- 0x98, IMP, 2 cycles (R159). -/
def execTyaImp (s : State) : Result := .next (opTya .imp 2 s)

/-- 0xBA, IMP, 2 cycles (R160). -/
def execTsxImp (s : State) : Result := .next (opTsx .imp 2 s)

/-- 0x9A, IMP, 2 cycles (R161). -/
def execTxsImp (s : State) : Result := .next (opTxs .imp 2 s)

end Sys2Proof.Machine
end

