-- ==== Sys2Proof/Machine/Shift.lean ====
section
/-! DEFINITION. Shift and rotate (spec/43_shift_rotate.md, rules R200 to R204). Each
opcode's meaning is one line over its instruction's operation. -/

namespace Sys2Proof.Machine

/-- `ShiftOp(f, mode, ea)` (R200): `A` in mode IMP, else one read and one write of memory; C, Z, N from the result. -/
def shiftOp (f : Byte → Bool → Shifted) (s : State) (r : Resolved) : State :=
  let m := readOperand s r
  let v := f m.1 (m.2.flag .C)
  writeOperand (m.2.setP (shiftFlags m.2.cpu.p v)) r v.val

/-- ASL (R201). -/
def opAsl (o : Operand) (base : Nat) (s : State) : State :=
  runInstr base false o (fun s r => shiftOp asl s r) s

/-- LSR (R202). -/
def opLsr (o : Operand) (base : Nat) (s : State) : State :=
  runInstr base false o (fun s r => shiftOp lsr s r) s

/-- ROL (R203). -/
def opRol (o : Operand) (base : Nat) (s : State) : State :=
  runInstr base false o (fun s r => shiftOp rol s r) s

/-- ROR (R204). -/
def opRor (o : Operand) (base : Nat) (s : State) : State :=
  runInstr base false o (fun s r => shiftOp ror s r) s

/-- 0x06, ZP0, 5 cycles (R201). -/
def execAslZp0 (d : Byte) (s : State) : Result := .next (opAsl (.zp0 d) 5 s)

/-- 0x0A, IMP, 2 cycles (R201). -/
def execAslImp (s : State) : Result := .next (opAsl .imp 2 s)

/-- 0x0E, ABS, 6 cycles (R201). -/
def execAslAbs (a : Addr) (s : State) : Result := .next (opAsl (.abs a) 6 s)

/-- 0x16, ZPX, 6 cycles (R201). -/
def execAslZpx (d : Byte) (s : State) : Result := .next (opAsl (.zpx d) 6 s)

/-- 0x1E, ABX, 7 cycles (R201). -/
def execAslAbx (a : Addr) (s : State) : Result := .next (opAsl (.abx a) 7 s)

/-- 0x46, ZP0, 5 cycles (R202). -/
def execLsrZp0 (d : Byte) (s : State) : Result := .next (opLsr (.zp0 d) 5 s)

/-- 0x4A, IMP, 2 cycles (R202). -/
def execLsrImp (s : State) : Result := .next (opLsr .imp 2 s)

/-- 0x4E, ABS, 6 cycles (R202). -/
def execLsrAbs (a : Addr) (s : State) : Result := .next (opLsr (.abs a) 6 s)

/-- 0x56, ZPX, 6 cycles (R202). -/
def execLsrZpx (d : Byte) (s : State) : Result := .next (opLsr (.zpx d) 6 s)

/-- 0x5E, ABX, 7 cycles (R202). -/
def execLsrAbx (a : Addr) (s : State) : Result := .next (opLsr (.abx a) 7 s)

/-- 0x26, ZP0, 5 cycles (R203). -/
def execRolZp0 (d : Byte) (s : State) : Result := .next (opRol (.zp0 d) 5 s)

/-- 0x2A, IMP, 2 cycles (R203). -/
def execRolImp (s : State) : Result := .next (opRol .imp 2 s)

/-- 0x2E, ABS, 6 cycles (R203). -/
def execRolAbs (a : Addr) (s : State) : Result := .next (opRol (.abs a) 6 s)

/-- 0x36, ZPX, 6 cycles (R203). -/
def execRolZpx (d : Byte) (s : State) : Result := .next (opRol (.zpx d) 6 s)

/-- 0x3E, ABX, 7 cycles (R203). -/
def execRolAbx (a : Addr) (s : State) : Result := .next (opRol (.abx a) 7 s)

/-- 0x66, ZP0, 5 cycles (R204). -/
def execRorZp0 (d : Byte) (s : State) : Result := .next (opRor (.zp0 d) 5 s)

/-- 0x6A, IMP, 2 cycles (R204). -/
def execRorImp (s : State) : Result := .next (opRor .imp 2 s)

/-- 0x6E, ABS, 6 cycles (R204). -/
def execRorAbs (a : Addr) (s : State) : Result := .next (opRor (.abs a) 6 s)

/-- 0x76, ZPX, 6 cycles (R204). -/
def execRorZpx (d : Byte) (s : State) : Result := .next (opRor (.zpx d) 6 s)

/-- 0x7E, ABX, 7 cycles (R204). -/
def execRorAbx (a : Addr) (s : State) : Result := .next (opRor (.abx a) 7 s)

end Sys2Proof.Machine
end

