-- ==== Sys2Proof/Machine/Stack.lean ====
section
/-! DEFINITION. Stack, flag and no-operation (spec/45_stack_flags_system.md, rules R230 to R241; the undocumented NOP opcodes, rule R264). Each
opcode's meaning is one line over its instruction's operation. -/

namespace Sys2Proof.Machine

/-- PHA (R230): `Push8(A)`. -/
def opPha (o : Operand) (base : Nat) (s : State) : State :=
  runInstr base false o (fun s _ => push8 s s.cpu.a) s

/-- PHP (R231): `Push8(P | 0x30)`. -/
def opPhp (o : Operand) (base : Nat) (s : State) : State :=
  runInstr base false o (fun s _ => push8 s (pushedByInstr s.cpu.p)) s

/-- PLA (R232): `A <- Pop8(); SetZN(A)`. -/
def opPla (o : Operand) (base : Nat) (s : State) : State :=
  runInstr base false o (fun s _ =>
    let m := pop8 s
    (m.2.setA m.1).setZN m.1) s

/-- PLP (R233): `P <- (Pop8() & 0xCF) | 0x20`. -/
def opPlp (o : Operand) (base : Nat) (s : State) : State :=
  runInstr base false o (fun s _ =>
    let m := pop8 s
    m.2.setP (pulledStatus m.1)) s

/-- CLC (R234): `P.C <- 0`. -/
def opClc (o : Operand) (base : Nat) (s : State) : State :=
  runInstr base false o (fun s _ => s.putFlag .C false) s

/-- SEC (R235): `P.C <- 1`. -/
def opSec (o : Operand) (base : Nat) (s : State) : State :=
  runInstr base false o (fun s _ => s.putFlag .C true) s

/-- CLI (R236): `P.I <- 0`. -/
def opCli (o : Operand) (base : Nat) (s : State) : State :=
  runInstr base false o (fun s _ => s.putFlag .I false) s

/-- SEI (R237): `P.I <- 1`. -/
def opSei (o : Operand) (base : Nat) (s : State) : State :=
  runInstr base false o (fun s _ => s.putFlag .I true) s

/-- CLV (R238): `P.V <- 0`. -/
def opClv (o : Operand) (base : Nat) (s : State) : State :=
  runInstr base false o (fun s _ => s.putFlag .V false) s

/-- CLD (R239): `P.D <- 0`. -/
def opCld (o : Operand) (base : Nat) (s : State) : State :=
  runInstr base false o (fun s _ => s.putFlag .D false) s

/-- SED (R240): `P.D <- 1`. -/
def opSed (o : Operand) (base : Nat) (s : State) : State :=
  runInstr base false o (fun s _ => s.putFlag .D true) s

/-- NOP (R241, R264): nothing in mode IMP, else one read of the operand, its value discarded. -/
def opNop (o : Operand) (base : Nat) (s : State) : State :=
  runInstr base true o (fun s r => (readOperand s r).2) s

/-- 0x48, IMP, 3 cycles (R230). -/
def execPhaImp (s : State) : Result := .next (opPha .imp 3 s)

/-- 0x08, IMP, 3 cycles (R231). -/
def execPhpImp (s : State) : Result := .next (opPhp .imp 3 s)

/-- 0x68, IMP, 4 cycles (R232). -/
def execPlaImp (s : State) : Result := .next (opPla .imp 4 s)

/-- 0x28, IMP, 4 cycles (R233). -/
def execPlpImp (s : State) : Result := .next (opPlp .imp 4 s)

/-- 0x18, IMP, 2 cycles (R234). -/
def execClcImp (s : State) : Result := .next (opClc .imp 2 s)

/-- 0x38, IMP, 2 cycles (R235). -/
def execSecImp (s : State) : Result := .next (opSec .imp 2 s)

/-- 0x58, IMP, 2 cycles (R236). -/
def execCliImp (s : State) : Result := .next (opCli .imp 2 s)

/-- 0x78, IMP, 2 cycles (R237). -/
def execSeiImp (s : State) : Result := .next (opSei .imp 2 s)

/-- 0xB8, IMP, 2 cycles (R238). -/
def execClvImp (s : State) : Result := .next (opClv .imp 2 s)

/-- 0xD8, IMP, 2 cycles (R239). -/
def execCldImp (s : State) : Result := .next (opCld .imp 2 s)

/-- 0xF8, IMP, 2 cycles (R240). -/
def execSedImp (s : State) : Result := .next (opSed .imp 2 s)

/-- 0x04, ZP0, 3 cycles (R264). -/
def execNopZp004 (d : Byte) (s : State) : Result := .next (opNop (.zp0 d) 3 s)

/-- 0x0C, ABS, 4 cycles (R264). -/
def execNopAbs (a : Addr) (s : State) : Result := .next (opNop (.abs a) 4 s)

/-- 0x14, ZPX, 4 cycles (R264). -/
def execNopZpx14 (d : Byte) (s : State) : Result := .next (opNop (.zpx d) 4 s)

/-- 0x1A, IMP, 2 cycles (R264). -/
def execNopImp1A (s : State) : Result := .next (opNop .imp 2 s)

/-- 0x1C, ABX, 4 cycles (R264). -/
def execNopAbx1C (a : Addr) (s : State) : Result := .next (opNop (.abx a) 4 s)

/-- 0x34, ZPX, 4 cycles (R264). -/
def execNopZpx34 (d : Byte) (s : State) : Result := .next (opNop (.zpx d) 4 s)

/-- 0x3A, IMP, 2 cycles (R264). -/
def execNopImp3A (s : State) : Result := .next (opNop .imp 2 s)

/-- 0x3C, ABX, 4 cycles (R264). -/
def execNopAbx3C (a : Addr) (s : State) : Result := .next (opNop (.abx a) 4 s)

/-- 0x44, ZP0, 3 cycles (R264). -/
def execNopZp044 (d : Byte) (s : State) : Result := .next (opNop (.zp0 d) 3 s)

/-- 0x54, ZPX, 4 cycles (R264). -/
def execNopZpx54 (d : Byte) (s : State) : Result := .next (opNop (.zpx d) 4 s)

/-- 0x5A, IMP, 2 cycles (R264). -/
def execNopImp5A (s : State) : Result := .next (opNop .imp 2 s)

/-- 0x5C, ABX, 4 cycles (R264). -/
def execNopAbx5C (a : Addr) (s : State) : Result := .next (opNop (.abx a) 4 s)

/-- 0x64, ZP0, 3 cycles (R264). -/
def execNopZp064 (d : Byte) (s : State) : Result := .next (opNop (.zp0 d) 3 s)

/-- 0x74, ZPX, 4 cycles (R264). -/
def execNopZpx74 (d : Byte) (s : State) : Result := .next (opNop (.zpx d) 4 s)

/-- 0x7A, IMP, 2 cycles (R264). -/
def execNopImp7A (s : State) : Result := .next (opNop .imp 2 s)

/-- 0x7C, ABX, 4 cycles (R264). -/
def execNopAbx7C (a : Addr) (s : State) : Result := .next (opNop (.abx a) 4 s)

/-- 0x80, IMM, 2 cycles (R264). -/
def execNopImm80 (d : Byte) (s : State) : Result := .next (opNop (.imm d) 2 s)

/-- 0x82, IMM, 2 cycles (R264). -/
def execNopImm82 (d : Byte) (s : State) : Result := .next (opNop (.imm d) 2 s)

/-- 0x89, IMM, 2 cycles (R264). -/
def execNopImm89 (d : Byte) (s : State) : Result := .next (opNop (.imm d) 2 s)

/-- 0xC2, IMM, 2 cycles (R264). -/
def execNopImmC2 (d : Byte) (s : State) : Result := .next (opNop (.imm d) 2 s)

/-- 0xD4, ZPX, 4 cycles (R264). -/
def execNopZpxD4 (d : Byte) (s : State) : Result := .next (opNop (.zpx d) 4 s)

/-- 0xDA, IMP, 2 cycles (R264). -/
def execNopImpDA (s : State) : Result := .next (opNop .imp 2 s)

/-- 0xDC, ABX, 4 cycles (R264). -/
def execNopAbxDC (a : Addr) (s : State) : Result := .next (opNop (.abx a) 4 s)

/-- 0xE2, IMM, 2 cycles (R264). -/
def execNopImmE2 (d : Byte) (s : State) : Result := .next (opNop (.imm d) 2 s)

/-- 0xEA, IMP, 2 cycles (R241). -/
def execNopImp (s : State) : Result := .next (opNop .imp 2 s)

/-- 0xF4, ZPX, 4 cycles (R264). -/
def execNopZpxF4 (d : Byte) (s : State) : Result := .next (opNop (.zpx d) 4 s)

/-- 0xFA, IMP, 2 cycles (R264). -/
def execNopImpFA (s : State) : Result := .next (opNop .imp 2 s)

/-- 0xFC, ABX, 4 cycles (R264). -/
def execNopAbxFC (a : Addr) (s : State) : Result := .next (opNop (.abx a) 4 s)

end Sys2Proof.Machine
end

