-- ==== Sys2Proof/Config.lean ====
section
/-! DEFINITION. What an implementation fixes and the spec leaves open (rule R8): constants without a value. -/

namespace Sys2Proof

/-- `cfg.ANE_MAGIC` (rules R8, R266; decision D15, OPEN): chips differ, so no value is given (log 7). -/
opaque Config.aneMagic : Byte

/-- `cfg.LXA_MAGIC` (rules R8, R267; decision D15, OPEN): no value is given (log 7). -/
opaque Config.lxaMagic : Byte

/-- `cfg.RGB` (rules R8, R371; decision D20, OPEN): the RGBA value of a colour index, used only by the frontend; no
value is given (log 8). -/
opaque Config.rgb : BitVec 6 → BitVec 32

end Sys2Proof
end

