-- ==== Sys2Proof/Machine/Undoc.lean ====
section
/-! DEFINITION. The undocumented instructions and the halt opcodes (spec/46_illegal.md, rules R250 to R280). Each
opcode's meaning is one line over its instruction's operation. -/

namespace Sys2Proof.Machine

/-- The common part of SLO, RLA, SRE and RRA (R251 to R254): read, shift, write the result; C from the shift. The
result comes back with the machine. -/
def shiftMemory (f : Byte → Bool → Shifted) (s : State) (r : Resolved) : Byte × State :=
  let m := readOperand s r
  let v := f m.1 (m.2.flag .C)
  (v.val, (writeOperand m.2 r v.val).putFlag .C v.carry)

/-- `UnstableStore(reg, ea, base_hi, crossed)` (R272): the value stored replaces the high byte of the target on a page
crossing. -/
def unstableStore (s : State) (reg : Byte) (r : Resolved) : State :=
  let v := reg &&& (r.baseHi + 1#8)
  busWrite s (if r.crossed then cat v (lo r.ea) else r.ea) v

/-- XAA's result for a magic value (R266). -/
def xaaResult (magic a x m : Byte) : Byte := (a ||| magic) &&& x &&& m

/-- LXA's result for a magic value (R267). -/
def lxaResult (magic a m : Byte) : Byte := (a ||| magic) &&& m

/-- SLO (R251): ASL memory, then ORA. -/
def opSlo (o : Operand) (base : Nat) (s : State) : State :=
  runInstr base false o (fun s r =>
    let m := shiftMemory asl s r
    loadA m.2 (m.2.cpu.a ||| m.1)) s

/-- RLA (R252): ROL memory, then AND. -/
def opRla (o : Operand) (base : Nat) (s : State) : State :=
  runInstr base false o (fun s r =>
    let m := shiftMemory rol s r
    loadA m.2 (m.2.cpu.a &&& m.1)) s

/-- SRE (R253): LSR memory, then EOR. -/
def opSre (o : Operand) (base : Nat) (s : State) : State :=
  runInstr base false o (fun s r =>
    let m := shiftMemory lsr s r
    loadA m.2 (m.2.cpu.a ^^^ m.1)) s

/-- RRA (R254): ROR memory, then ADC with the carry the rotate left. -/
def opRra (o : Operand) (base : Nat) (s : State) : State :=
  runInstr base false o (fun s r =>
    let m := shiftMemory ror s r
    addWithCarry m.2 m.1) s

/-- DCP (R257): DEC memory, then CMP. -/
def opDcp (o : Operand) (base : Nat) (s : State) : State :=
  runInstr base false o (fun s r =>
    let m := readOperand s r
    compareWith (writeOperand m.2 r (m.1 - 1#8)) m.2.cpu.a (m.1 - 1#8)) s

/-- ISC (R258): INC memory, then SBC. -/
def opIsc (o : Operand) (base : Nat) (s : State) : State :=
  runInstr base false o (fun s r =>
    let m := readOperand s r
    addWithCarry (writeOperand m.2 r (m.1 + 1#8)) ((m.1 + 1#8) ^^^ 0xFF#8)) s

/-- SAX (R255): `MemWrite(ea, 1, A & X)`. -/
def opSax (o : Operand) (base : Nat) (s : State) : State :=
  runInstr base false o (fun s r => writeOperand s r (s.cpu.a &&& s.cpu.x)) s

/-- LAX (R256): `A <- M; X <- M; SetZN(M)`. -/
def opLax (o : Operand) (base : Nat) (s : State) : State :=
  runInstr base true o (fun s r =>
    let m := readOperand s r
    ((m.2.setA m.1).setX m.1).setZN m.1) s

/-- LAS (R265): `A, X, S <- M & S; SetZN`. -/
def opLas (o : Operand) (base : Nat) (s : State) : State :=
  runInstr base true o (fun s r =>
    let m := readOperand s r
    let t := m.1 &&& m.2.cpu.sp
    (((m.2.setA t).setX t).setSp t).setZN t) s

/-- ANC (R259): `A <- A & M; SetZN(A); P.C <- A[7]`. -/
def opAnc (o : Operand) (base : Nat) (s : State) : State :=
  runInstr base false o (fun s r =>
    let m := readOperand s r
    let t := m.2.cpu.a &&& m.1
    (m.2.setA t).setP (ancFlags m.2.cpu.p t)) s

/-- ALR (R260): AND, then LSR A. -/
def opAlr (o : Operand) (base : Nat) (s : State) : State :=
  runInstr base false o (fun s r =>
    let m := readOperand s r
    let v := lsr (m.2.cpu.a &&& m.1) (m.2.flag .C)
    (m.2.setA v.val).setP (shiftFlags m.2.cpu.p v)) s

/-- ARR (R261): AND, then ROR A; C is bit 6, V bit 6 xor bit 5 of the result. -/
def opArr (o : Operand) (base : Nat) (s : State) : State :=
  runInstr base false o (fun s r =>
    let m := readOperand s r
    let v := ror (m.2.cpu.a &&& m.1) (m.2.flag .C)
    (m.2.setA v.val).setP (arrFlags m.2.cpu.p v.val)) s

/-- AXS (R262): `X <- (A & X) - M` without borrow. -/
def opAxs (o : Operand) (base : Nat) (s : State) : State :=
  runInstr base false o (fun s r =>
    let m := readOperand s r
    let t := m.2.cpu.a &&& m.2.cpu.x
    (m.2.setX (t - m.1)).setP (axsFlags m.2.cpu.p t m.1)) s

/-- XAA (R266): `A <- (A | cfg.ANE_MAGIC) & X & M; SetZN(A)` (log 7). -/
def opXaa (o : Operand) (base : Nat) (s : State) : State :=
  runInstr base false o (fun s r =>
    let m := readOperand s r
    loadA m.2 (xaaResult Config.aneMagic m.2.cpu.a m.2.cpu.x m.1)) s

/-- LXA (R267): `A, X <- (A | cfg.LXA_MAGIC) & M; SetZN` (log 7). -/
def opLxa (o : Operand) (base : Nat) (s : State) : State :=
  runInstr base false o (fun s r =>
    let m := readOperand s r
    let t := lxaResult Config.lxaMagic m.2.cpu.a m.1
    ((m.2.setA t).setX t).setZN t) s

/-- AHX (R268): `UnstableStore(A & X)`. -/
def opAhx (o : Operand) (base : Nat) (s : State) : State :=
  runInstr base false o (fun s r => unstableStore s (s.cpu.a &&& s.cpu.x) r) s

/-- SHY (R269): `UnstableStore(Y)`. -/
def opShy (o : Operand) (base : Nat) (s : State) : State :=
  runInstr base false o (fun s r => unstableStore s s.cpu.y r) s

/-- SHX (R270): `UnstableStore(X)`. -/
def opShx (o : Operand) (base : Nat) (s : State) : State :=
  runInstr base false o (fun s r => unstableStore s s.cpu.x r) s

/-- TAS (R271): `S <- A & X; UnstableStore(S)`. -/
def opTas (o : Operand) (base : Nat) (s : State) : State :=
  runInstr base false o (fun s r => unstableStore (s.setSp (s.cpu.a &&& s.cpu.x)) (s.cpu.a &&& s.cpu.x) r) s

/-- KIL (R280): `cpu.halted <- true`; the clock then sets `cpu.cyc <- 0` (R131). -/
def opKil (o : Operand) (base : Nat) (s : State) : State :=
  runInstr base false o (fun s _ => s.setHalted true) s

/-- 0x03, IZX, 8 cycles (R251). -/
def execSloIzx (d : Byte) (s : State) : Result := .next (opSlo (.izx d) 8 s)

/-- 0x07, ZP0, 5 cycles (R251). -/
def execSloZp0 (d : Byte) (s : State) : Result := .next (opSlo (.zp0 d) 5 s)

/-- 0x0F, ABS, 6 cycles (R251). -/
def execSloAbs (a : Addr) (s : State) : Result := .next (opSlo (.abs a) 6 s)

/-- 0x13, IZY, 8 cycles (R251). -/
def execSloIzy (d : Byte) (s : State) : Result := .next (opSlo (.izy d) 8 s)

/-- 0x17, ZPX, 6 cycles (R251). -/
def execSloZpx (d : Byte) (s : State) : Result := .next (opSlo (.zpx d) 6 s)

/-- 0x1B, ABY, 7 cycles (R251). -/
def execSloAby (a : Addr) (s : State) : Result := .next (opSlo (.aby a) 7 s)

/-- 0x1F, ABX, 7 cycles (R251). -/
def execSloAbx (a : Addr) (s : State) : Result := .next (opSlo (.abx a) 7 s)

/-- 0x23, IZX, 8 cycles (R252). -/
def execRlaIzx (d : Byte) (s : State) : Result := .next (opRla (.izx d) 8 s)

/-- 0x27, ZP0, 5 cycles (R252). -/
def execRlaZp0 (d : Byte) (s : State) : Result := .next (opRla (.zp0 d) 5 s)

/-- 0x2F, ABS, 6 cycles (R252). -/
def execRlaAbs (a : Addr) (s : State) : Result := .next (opRla (.abs a) 6 s)

/-- 0x33, IZY, 8 cycles (R252). -/
def execRlaIzy (d : Byte) (s : State) : Result := .next (opRla (.izy d) 8 s)

/-- 0x37, ZPX, 6 cycles (R252). -/
def execRlaZpx (d : Byte) (s : State) : Result := .next (opRla (.zpx d) 6 s)

/-- 0x3B, ABY, 7 cycles (R252). -/
def execRlaAby (a : Addr) (s : State) : Result := .next (opRla (.aby a) 7 s)

/-- 0x3F, ABX, 7 cycles (R252). -/
def execRlaAbx (a : Addr) (s : State) : Result := .next (opRla (.abx a) 7 s)

/-- 0x43, IZX, 8 cycles (R253). -/
def execSreIzx (d : Byte) (s : State) : Result := .next (opSre (.izx d) 8 s)

/-- 0x47, ZP0, 5 cycles (R253). -/
def execSreZp0 (d : Byte) (s : State) : Result := .next (opSre (.zp0 d) 5 s)

/-- 0x4F, ABS, 6 cycles (R253). -/
def execSreAbs (a : Addr) (s : State) : Result := .next (opSre (.abs a) 6 s)

/-- 0x53, IZY, 8 cycles (R253). -/
def execSreIzy (d : Byte) (s : State) : Result := .next (opSre (.izy d) 8 s)

/-- 0x57, ZPX, 6 cycles (R253). -/
def execSreZpx (d : Byte) (s : State) : Result := .next (opSre (.zpx d) 6 s)

/-- 0x5B, ABY, 7 cycles (R253). -/
def execSreAby (a : Addr) (s : State) : Result := .next (opSre (.aby a) 7 s)

/-- 0x5F, ABX, 7 cycles (R253). -/
def execSreAbx (a : Addr) (s : State) : Result := .next (opSre (.abx a) 7 s)

/-- 0x63, IZX, 8 cycles (R254). -/
def execRraIzx (d : Byte) (s : State) : Result := .next (opRra (.izx d) 8 s)

/-- 0x67, ZP0, 5 cycles (R254). -/
def execRraZp0 (d : Byte) (s : State) : Result := .next (opRra (.zp0 d) 5 s)

/-- 0x6F, ABS, 6 cycles (R254). -/
def execRraAbs (a : Addr) (s : State) : Result := .next (opRra (.abs a) 6 s)

/-- 0x73, IZY, 8 cycles (R254). -/
def execRraIzy (d : Byte) (s : State) : Result := .next (opRra (.izy d) 8 s)

/-- 0x77, ZPX, 6 cycles (R254). -/
def execRraZpx (d : Byte) (s : State) : Result := .next (opRra (.zpx d) 6 s)

/-- 0x7B, ABY, 7 cycles (R254). -/
def execRraAby (a : Addr) (s : State) : Result := .next (opRra (.aby a) 7 s)

/-- 0x7F, ABX, 7 cycles (R254). -/
def execRraAbx (a : Addr) (s : State) : Result := .next (opRra (.abx a) 7 s)

/-- 0xC3, IZX, 8 cycles (R257). -/
def execDcpIzx (d : Byte) (s : State) : Result := .next (opDcp (.izx d) 8 s)

/-- 0xC7, ZP0, 5 cycles (R257). -/
def execDcpZp0 (d : Byte) (s : State) : Result := .next (opDcp (.zp0 d) 5 s)

/-- 0xCF, ABS, 6 cycles (R257). -/
def execDcpAbs (a : Addr) (s : State) : Result := .next (opDcp (.abs a) 6 s)

/-- 0xD3, IZY, 8 cycles (R257). -/
def execDcpIzy (d : Byte) (s : State) : Result := .next (opDcp (.izy d) 8 s)

/-- 0xD7, ZPX, 6 cycles (R257). -/
def execDcpZpx (d : Byte) (s : State) : Result := .next (opDcp (.zpx d) 6 s)

/-- 0xDB, ABY, 7 cycles (R257). -/
def execDcpAby (a : Addr) (s : State) : Result := .next (opDcp (.aby a) 7 s)

/-- 0xDF, ABX, 7 cycles (R257). -/
def execDcpAbx (a : Addr) (s : State) : Result := .next (opDcp (.abx a) 7 s)

/-- 0xE3, IZX, 8 cycles (R258). -/
def execIscIzx (d : Byte) (s : State) : Result := .next (opIsc (.izx d) 8 s)

/-- 0xE7, ZP0, 5 cycles (R258). -/
def execIscZp0 (d : Byte) (s : State) : Result := .next (opIsc (.zp0 d) 5 s)

/-- 0xEF, ABS, 6 cycles (R258). -/
def execIscAbs (a : Addr) (s : State) : Result := .next (opIsc (.abs a) 6 s)

/-- 0xF3, IZY, 8 cycles (R258). -/
def execIscIzy (d : Byte) (s : State) : Result := .next (opIsc (.izy d) 8 s)

/-- 0xF7, ZPX, 6 cycles (R258). -/
def execIscZpx (d : Byte) (s : State) : Result := .next (opIsc (.zpx d) 6 s)

/-- 0xFB, ABY, 7 cycles (R258). -/
def execIscAby (a : Addr) (s : State) : Result := .next (opIsc (.aby a) 7 s)

/-- 0xFF, ABX, 7 cycles (R258). -/
def execIscAbx (a : Addr) (s : State) : Result := .next (opIsc (.abx a) 7 s)

/-- 0x83, IZX, 6 cycles (R255). -/
def execSaxIzx (d : Byte) (s : State) : Result := .next (opSax (.izx d) 6 s)

/-- 0x87, ZP0, 3 cycles (R255). -/
def execSaxZp0 (d : Byte) (s : State) : Result := .next (opSax (.zp0 d) 3 s)

/-- 0x8F, ABS, 4 cycles (R255). -/
def execSaxAbs (a : Addr) (s : State) : Result := .next (opSax (.abs a) 4 s)

/-- 0x97, ZPY, 4 cycles (R255). -/
def execSaxZpy (d : Byte) (s : State) : Result := .next (opSax (.zpy d) 4 s)

/-- 0xA3, IZX, 6 cycles (R256). -/
def execLaxIzx (d : Byte) (s : State) : Result := .next (opLax (.izx d) 6 s)

/-- 0xA7, ZP0, 3 cycles (R256). -/
def execLaxZp0 (d : Byte) (s : State) : Result := .next (opLax (.zp0 d) 3 s)

/-- 0xAF, ABS, 4 cycles (R256). -/
def execLaxAbs (a : Addr) (s : State) : Result := .next (opLax (.abs a) 4 s)

/-- 0xB3, IZY, 5 cycles (R256). -/
def execLaxIzy (d : Byte) (s : State) : Result := .next (opLax (.izy d) 5 s)

/-- 0xB7, ZPY, 4 cycles (R256). -/
def execLaxZpy (d : Byte) (s : State) : Result := .next (opLax (.zpy d) 4 s)

/-- 0xBF, ABY, 4 cycles (R256). -/
def execLaxAby (a : Addr) (s : State) : Result := .next (opLax (.aby a) 4 s)

/-- 0xBB, ABY, 4 cycles (R265). -/
def execLasAby (a : Addr) (s : State) : Result := .next (opLas (.aby a) 4 s)

/-- 0x0B, IMM, 2 cycles (R259). -/
def execAncImm0B (d : Byte) (s : State) : Result := .next (opAnc (.imm d) 2 s)

/-- 0x2B, IMM, 2 cycles (R259). -/
def execAncImm2B (d : Byte) (s : State) : Result := .next (opAnc (.imm d) 2 s)

/-- 0x4B, IMM, 2 cycles (R260). -/
def execAlrImm (d : Byte) (s : State) : Result := .next (opAlr (.imm d) 2 s)

/-- 0x6B, IMM, 2 cycles (R261). -/
def execArrImm (d : Byte) (s : State) : Result := .next (opArr (.imm d) 2 s)

/-- 0xCB, IMM, 2 cycles (R262). -/
def execAxsImm (d : Byte) (s : State) : Result := .next (opAxs (.imm d) 2 s)

/-- 0x8B, IMM, 2 cycles (R266). -/
def execXaaImm (d : Byte) (s : State) : Result := .next (opXaa (.imm d) 2 s)

/-- 0xAB, IMM, 2 cycles (R267). -/
def execLxaImm (d : Byte) (s : State) : Result := .next (opLxa (.imm d) 2 s)

/-- 0x93, IZY, 6 cycles (R268). -/
def execAhxIzy (d : Byte) (s : State) : Result := .next (opAhx (.izy d) 6 s)

/-- 0x9F, ABY, 5 cycles (R268). -/
def execAhxAby (a : Addr) (s : State) : Result := .next (opAhx (.aby a) 5 s)

/-- 0x9C, ABX, 5 cycles (R269). -/
def execShyAbx (a : Addr) (s : State) : Result := .next (opShy (.abx a) 5 s)

/-- 0x9E, ABY, 5 cycles (R270). -/
def execShxAby (a : Addr) (s : State) : Result := .next (opShx (.aby a) 5 s)

/-- 0x9B, ABY, 5 cycles (R271). -/
def execTasAby (a : Addr) (s : State) : Result := .next (opTas (.aby a) 5 s)

/-- 0x02, IMP, 2 cycles (R280). -/
def execKilImp02 (s : State) : Result := .next (opKil .imp 2 s)

/-- 0x12, IMP, 2 cycles (R280). -/
def execKilImp12 (s : State) : Result := .next (opKil .imp 2 s)

/-- 0x22, IMP, 2 cycles (R280). -/
def execKilImp22 (s : State) : Result := .next (opKil .imp 2 s)

/-- 0x32, IMP, 2 cycles (R280). -/
def execKilImp32 (s : State) : Result := .next (opKil .imp 2 s)

/-- 0x42, IMP, 2 cycles (R280). -/
def execKilImp42 (s : State) : Result := .next (opKil .imp 2 s)

/-- 0x52, IMP, 2 cycles (R280). -/
def execKilImp52 (s : State) : Result := .next (opKil .imp 2 s)

/-- 0x62, IMP, 2 cycles (R280). -/
def execKilImp62 (s : State) : Result := .next (opKil .imp 2 s)

/-- 0x72, IMP, 2 cycles (R280). -/
def execKilImp72 (s : State) : Result := .next (opKil .imp 2 s)

/-- 0x92, IMP, 2 cycles (R280). -/
def execKilImp92 (s : State) : Result := .next (opKil .imp 2 s)

/-- 0xB2, IMP, 2 cycles (R280). -/
def execKilImpB2 (s : State) : Result := .next (opKil .imp 2 s)

/-- 0xD2, IMP, 2 cycles (R280). -/
def execKilImpD2 (s : State) : Result := .next (opKil .imp 2 s)

/-- 0xF2, IMP, 2 cycles (R280). -/
def execKilImpF2 (s : State) : Result := .next (opKil .imp 2 s)

end Sys2Proof.Machine
end

