-- ==== Sys2Proof/Machine/Dispatch.lean ====
section
/-! DEFINITION. The dispatch of every instruction to its meaning (rule R130: each opcode resolves to its addressing mode
and operation). -/

namespace Sys2Proof.Machine

open Sys2Proof

def exec (i : Instr) (s : State) : Host.Outcome State Fault Refusal :=
  match i with
  | .brkImp => Sys2Proof.Machine.execBrkImp s
  | .oraIzx d => Sys2Proof.Machine.execOraIzx d s
  | .kilImp02 => Sys2Proof.Machine.execKilImp02 s
  | .sloIzx d => Sys2Proof.Machine.execSloIzx d s
  | .nopZp004 d => Sys2Proof.Machine.execNopZp004 d s
  | .oraZp0 d => Sys2Proof.Machine.execOraZp0 d s
  | .aslZp0 d => Sys2Proof.Machine.execAslZp0 d s
  | .sloZp0 d => Sys2Proof.Machine.execSloZp0 d s
  | .phpImp => Sys2Proof.Machine.execPhpImp s
  | .oraImm d => Sys2Proof.Machine.execOraImm d s
  | .aslImp => Sys2Proof.Machine.execAslImp s
  | .ancImm0B d => Sys2Proof.Machine.execAncImm0B d s
  | .nopAbs a => Sys2Proof.Machine.execNopAbs a s
  | .oraAbs a => Sys2Proof.Machine.execOraAbs a s
  | .aslAbs a => Sys2Proof.Machine.execAslAbs a s
  | .sloAbs a => Sys2Proof.Machine.execSloAbs a s
  | .bplRel d => Sys2Proof.Machine.execBplRel d s
  | .oraIzy d => Sys2Proof.Machine.execOraIzy d s
  | .kilImp12 => Sys2Proof.Machine.execKilImp12 s
  | .sloIzy d => Sys2Proof.Machine.execSloIzy d s
  | .nopZpx14 d => Sys2Proof.Machine.execNopZpx14 d s
  | .oraZpx d => Sys2Proof.Machine.execOraZpx d s
  | .aslZpx d => Sys2Proof.Machine.execAslZpx d s
  | .sloZpx d => Sys2Proof.Machine.execSloZpx d s
  | .clcImp => Sys2Proof.Machine.execClcImp s
  | .oraAby a => Sys2Proof.Machine.execOraAby a s
  | .nopImp1A => Sys2Proof.Machine.execNopImp1A s
  | .sloAby a => Sys2Proof.Machine.execSloAby a s
  | .nopAbx1C a => Sys2Proof.Machine.execNopAbx1C a s
  | .oraAbx a => Sys2Proof.Machine.execOraAbx a s
  | .aslAbx a => Sys2Proof.Machine.execAslAbx a s
  | .sloAbx a => Sys2Proof.Machine.execSloAbx a s
  | .jsrAbs a => Sys2Proof.Machine.execJsrAbs a s
  | .andIzx d => Sys2Proof.Machine.execAndIzx d s
  | .kilImp22 => Sys2Proof.Machine.execKilImp22 s
  | .rlaIzx d => Sys2Proof.Machine.execRlaIzx d s
  | .bitZp0 d => Sys2Proof.Machine.execBitZp0 d s
  | .andZp0 d => Sys2Proof.Machine.execAndZp0 d s
  | .rolZp0 d => Sys2Proof.Machine.execRolZp0 d s
  | .rlaZp0 d => Sys2Proof.Machine.execRlaZp0 d s
  | .plpImp => Sys2Proof.Machine.execPlpImp s
  | .andImm d => Sys2Proof.Machine.execAndImm d s
  | .rolImp => Sys2Proof.Machine.execRolImp s
  | .ancImm2B d => Sys2Proof.Machine.execAncImm2B d s
  | .bitAbs a => Sys2Proof.Machine.execBitAbs a s
  | .andAbs a => Sys2Proof.Machine.execAndAbs a s
  | .rolAbs a => Sys2Proof.Machine.execRolAbs a s
  | .rlaAbs a => Sys2Proof.Machine.execRlaAbs a s
  | .bmiRel d => Sys2Proof.Machine.execBmiRel d s
  | .andIzy d => Sys2Proof.Machine.execAndIzy d s
  | .kilImp32 => Sys2Proof.Machine.execKilImp32 s
  | .rlaIzy d => Sys2Proof.Machine.execRlaIzy d s
  | .nopZpx34 d => Sys2Proof.Machine.execNopZpx34 d s
  | .andZpx d => Sys2Proof.Machine.execAndZpx d s
  | .rolZpx d => Sys2Proof.Machine.execRolZpx d s
  | .rlaZpx d => Sys2Proof.Machine.execRlaZpx d s
  | .secImp => Sys2Proof.Machine.execSecImp s
  | .andAby a => Sys2Proof.Machine.execAndAby a s
  | .nopImp3A => Sys2Proof.Machine.execNopImp3A s
  | .rlaAby a => Sys2Proof.Machine.execRlaAby a s
  | .nopAbx3C a => Sys2Proof.Machine.execNopAbx3C a s
  | .andAbx a => Sys2Proof.Machine.execAndAbx a s
  | .rolAbx a => Sys2Proof.Machine.execRolAbx a s
  | .rlaAbx a => Sys2Proof.Machine.execRlaAbx a s
  | .rtiImp => Sys2Proof.Machine.execRtiImp s
  | .eorIzx d => Sys2Proof.Machine.execEorIzx d s
  | .kilImp42 => Sys2Proof.Machine.execKilImp42 s
  | .sreIzx d => Sys2Proof.Machine.execSreIzx d s
  | .nopZp044 d => Sys2Proof.Machine.execNopZp044 d s
  | .eorZp0 d => Sys2Proof.Machine.execEorZp0 d s
  | .lsrZp0 d => Sys2Proof.Machine.execLsrZp0 d s
  | .sreZp0 d => Sys2Proof.Machine.execSreZp0 d s
  | .phaImp => Sys2Proof.Machine.execPhaImp s
  | .eorImm d => Sys2Proof.Machine.execEorImm d s
  | .lsrImp => Sys2Proof.Machine.execLsrImp s
  | .alrImm d => Sys2Proof.Machine.execAlrImm d s
  | .jmpAbs a => Sys2Proof.Machine.execJmpAbs a s
  | .eorAbs a => Sys2Proof.Machine.execEorAbs a s
  | .lsrAbs a => Sys2Proof.Machine.execLsrAbs a s
  | .sreAbs a => Sys2Proof.Machine.execSreAbs a s
  | .bvcRel d => Sys2Proof.Machine.execBvcRel d s
  | .eorIzy d => Sys2Proof.Machine.execEorIzy d s
  | .kilImp52 => Sys2Proof.Machine.execKilImp52 s
  | .sreIzy d => Sys2Proof.Machine.execSreIzy d s
  | .nopZpx54 d => Sys2Proof.Machine.execNopZpx54 d s
  | .eorZpx d => Sys2Proof.Machine.execEorZpx d s
  | .lsrZpx d => Sys2Proof.Machine.execLsrZpx d s
  | .sreZpx d => Sys2Proof.Machine.execSreZpx d s
  | .cliImp => Sys2Proof.Machine.execCliImp s
  | .eorAby a => Sys2Proof.Machine.execEorAby a s
  | .nopImp5A => Sys2Proof.Machine.execNopImp5A s
  | .sreAby a => Sys2Proof.Machine.execSreAby a s
  | .nopAbx5C a => Sys2Proof.Machine.execNopAbx5C a s
  | .eorAbx a => Sys2Proof.Machine.execEorAbx a s
  | .lsrAbx a => Sys2Proof.Machine.execLsrAbx a s
  | .sreAbx a => Sys2Proof.Machine.execSreAbx a s
  | .rtsImp => Sys2Proof.Machine.execRtsImp s
  | .adcIzx d => Sys2Proof.Machine.execAdcIzx d s
  | .kilImp62 => Sys2Proof.Machine.execKilImp62 s
  | .rraIzx d => Sys2Proof.Machine.execRraIzx d s
  | .nopZp064 d => Sys2Proof.Machine.execNopZp064 d s
  | .adcZp0 d => Sys2Proof.Machine.execAdcZp0 d s
  | .rorZp0 d => Sys2Proof.Machine.execRorZp0 d s
  | .rraZp0 d => Sys2Proof.Machine.execRraZp0 d s
  | .plaImp => Sys2Proof.Machine.execPlaImp s
  | .adcImm d => Sys2Proof.Machine.execAdcImm d s
  | .rorImp => Sys2Proof.Machine.execRorImp s
  | .arrImm d => Sys2Proof.Machine.execArrImm d s
  | .jmpInd a => Sys2Proof.Machine.execJmpInd a s
  | .adcAbs a => Sys2Proof.Machine.execAdcAbs a s
  | .rorAbs a => Sys2Proof.Machine.execRorAbs a s
  | .rraAbs a => Sys2Proof.Machine.execRraAbs a s
  | .bvsRel d => Sys2Proof.Machine.execBvsRel d s
  | .adcIzy d => Sys2Proof.Machine.execAdcIzy d s
  | .kilImp72 => Sys2Proof.Machine.execKilImp72 s
  | .rraIzy d => Sys2Proof.Machine.execRraIzy d s
  | .nopZpx74 d => Sys2Proof.Machine.execNopZpx74 d s
  | .adcZpx d => Sys2Proof.Machine.execAdcZpx d s
  | .rorZpx d => Sys2Proof.Machine.execRorZpx d s
  | .rraZpx d => Sys2Proof.Machine.execRraZpx d s
  | .seiImp => Sys2Proof.Machine.execSeiImp s
  | .adcAby a => Sys2Proof.Machine.execAdcAby a s
  | .nopImp7A => Sys2Proof.Machine.execNopImp7A s
  | .rraAby a => Sys2Proof.Machine.execRraAby a s
  | .nopAbx7C a => Sys2Proof.Machine.execNopAbx7C a s
  | .adcAbx a => Sys2Proof.Machine.execAdcAbx a s
  | .rorAbx a => Sys2Proof.Machine.execRorAbx a s
  | .rraAbx a => Sys2Proof.Machine.execRraAbx a s
  | .nopImm80 d => Sys2Proof.Machine.execNopImm80 d s
  | .staIzx d => Sys2Proof.Machine.execStaIzx d s
  | .nopImm82 d => Sys2Proof.Machine.execNopImm82 d s
  | .saxIzx d => Sys2Proof.Machine.execSaxIzx d s
  | .styZp0 d => Sys2Proof.Machine.execStyZp0 d s
  | .staZp0 d => Sys2Proof.Machine.execStaZp0 d s
  | .stxZp0 d => Sys2Proof.Machine.execStxZp0 d s
  | .saxZp0 d => Sys2Proof.Machine.execSaxZp0 d s
  | .deyImp => Sys2Proof.Machine.execDeyImp s
  | .nopImm89 d => Sys2Proof.Machine.execNopImm89 d s
  | .txaImp => Sys2Proof.Machine.execTxaImp s
  | .xaaImm d => Sys2Proof.Machine.execXaaImm d s
  | .styAbs a => Sys2Proof.Machine.execStyAbs a s
  | .staAbs a => Sys2Proof.Machine.execStaAbs a s
  | .stxAbs a => Sys2Proof.Machine.execStxAbs a s
  | .saxAbs a => Sys2Proof.Machine.execSaxAbs a s
  | .bccRel d => Sys2Proof.Machine.execBccRel d s
  | .staIzy d => Sys2Proof.Machine.execStaIzy d s
  | .kilImp92 => Sys2Proof.Machine.execKilImp92 s
  | .ahxIzy d => Sys2Proof.Machine.execAhxIzy d s
  | .styZpx d => Sys2Proof.Machine.execStyZpx d s
  | .staZpx d => Sys2Proof.Machine.execStaZpx d s
  | .stxZpy d => Sys2Proof.Machine.execStxZpy d s
  | .saxZpy d => Sys2Proof.Machine.execSaxZpy d s
  | .tyaImp => Sys2Proof.Machine.execTyaImp s
  | .staAby a => Sys2Proof.Machine.execStaAby a s
  | .txsImp => Sys2Proof.Machine.execTxsImp s
  | .tasAby a => Sys2Proof.Machine.execTasAby a s
  | .shyAbx a => Sys2Proof.Machine.execShyAbx a s
  | .staAbx a => Sys2Proof.Machine.execStaAbx a s
  | .shxAby a => Sys2Proof.Machine.execShxAby a s
  | .ahxAby a => Sys2Proof.Machine.execAhxAby a s
  | .ldyImm d => Sys2Proof.Machine.execLdyImm d s
  | .ldaIzx d => Sys2Proof.Machine.execLdaIzx d s
  | .ldxImm d => Sys2Proof.Machine.execLdxImm d s
  | .laxIzx d => Sys2Proof.Machine.execLaxIzx d s
  | .ldyZp0 d => Sys2Proof.Machine.execLdyZp0 d s
  | .ldaZp0 d => Sys2Proof.Machine.execLdaZp0 d s
  | .ldxZp0 d => Sys2Proof.Machine.execLdxZp0 d s
  | .laxZp0 d => Sys2Proof.Machine.execLaxZp0 d s
  | .tayImp => Sys2Proof.Machine.execTayImp s
  | .ldaImm d => Sys2Proof.Machine.execLdaImm d s
  | .taxImp => Sys2Proof.Machine.execTaxImp s
  | .lxaImm d => Sys2Proof.Machine.execLxaImm d s
  | .ldyAbs a => Sys2Proof.Machine.execLdyAbs a s
  | .ldaAbs a => Sys2Proof.Machine.execLdaAbs a s
  | .ldxAbs a => Sys2Proof.Machine.execLdxAbs a s
  | .laxAbs a => Sys2Proof.Machine.execLaxAbs a s
  | .bcsRel d => Sys2Proof.Machine.execBcsRel d s
  | .ldaIzy d => Sys2Proof.Machine.execLdaIzy d s
  | .kilImpB2 => Sys2Proof.Machine.execKilImpB2 s
  | .laxIzy d => Sys2Proof.Machine.execLaxIzy d s
  | .ldyZpx d => Sys2Proof.Machine.execLdyZpx d s
  | .ldaZpx d => Sys2Proof.Machine.execLdaZpx d s
  | .ldxZpy d => Sys2Proof.Machine.execLdxZpy d s
  | .laxZpy d => Sys2Proof.Machine.execLaxZpy d s
  | .clvImp => Sys2Proof.Machine.execClvImp s
  | .ldaAby a => Sys2Proof.Machine.execLdaAby a s
  | .tsxImp => Sys2Proof.Machine.execTsxImp s
  | .lasAby a => Sys2Proof.Machine.execLasAby a s
  | .ldyAbx a => Sys2Proof.Machine.execLdyAbx a s
  | .ldaAbx a => Sys2Proof.Machine.execLdaAbx a s
  | .ldxAby a => Sys2Proof.Machine.execLdxAby a s
  | .laxAby a => Sys2Proof.Machine.execLaxAby a s
  | .cpyImm d => Sys2Proof.Machine.execCpyImm d s
  | .cmpIzx d => Sys2Proof.Machine.execCmpIzx d s
  | .nopImmC2 d => Sys2Proof.Machine.execNopImmC2 d s
  | .dcpIzx d => Sys2Proof.Machine.execDcpIzx d s
  | .cpyZp0 d => Sys2Proof.Machine.execCpyZp0 d s
  | .cmpZp0 d => Sys2Proof.Machine.execCmpZp0 d s
  | .decZp0 d => Sys2Proof.Machine.execDecZp0 d s
  | .dcpZp0 d => Sys2Proof.Machine.execDcpZp0 d s
  | .inyImp => Sys2Proof.Machine.execInyImp s
  | .cmpImm d => Sys2Proof.Machine.execCmpImm d s
  | .dexImp => Sys2Proof.Machine.execDexImp s
  | .axsImm d => Sys2Proof.Machine.execAxsImm d s
  | .cpyAbs a => Sys2Proof.Machine.execCpyAbs a s
  | .cmpAbs a => Sys2Proof.Machine.execCmpAbs a s
  | .decAbs a => Sys2Proof.Machine.execDecAbs a s
  | .dcpAbs a => Sys2Proof.Machine.execDcpAbs a s
  | .bneRel d => Sys2Proof.Machine.execBneRel d s
  | .cmpIzy d => Sys2Proof.Machine.execCmpIzy d s
  | .kilImpD2 => Sys2Proof.Machine.execKilImpD2 s
  | .dcpIzy d => Sys2Proof.Machine.execDcpIzy d s
  | .nopZpxD4 d => Sys2Proof.Machine.execNopZpxD4 d s
  | .cmpZpx d => Sys2Proof.Machine.execCmpZpx d s
  | .decZpx d => Sys2Proof.Machine.execDecZpx d s
  | .dcpZpx d => Sys2Proof.Machine.execDcpZpx d s
  | .cldImp => Sys2Proof.Machine.execCldImp s
  | .cmpAby a => Sys2Proof.Machine.execCmpAby a s
  | .nopImpDA => Sys2Proof.Machine.execNopImpDA s
  | .dcpAby a => Sys2Proof.Machine.execDcpAby a s
  | .nopAbxDC a => Sys2Proof.Machine.execNopAbxDC a s
  | .cmpAbx a => Sys2Proof.Machine.execCmpAbx a s
  | .decAbx a => Sys2Proof.Machine.execDecAbx a s
  | .dcpAbx a => Sys2Proof.Machine.execDcpAbx a s
  | .cpxImm d => Sys2Proof.Machine.execCpxImm d s
  | .sbcIzx d => Sys2Proof.Machine.execSbcIzx d s
  | .nopImmE2 d => Sys2Proof.Machine.execNopImmE2 d s
  | .iscIzx d => Sys2Proof.Machine.execIscIzx d s
  | .cpxZp0 d => Sys2Proof.Machine.execCpxZp0 d s
  | .sbcZp0 d => Sys2Proof.Machine.execSbcZp0 d s
  | .incZp0 d => Sys2Proof.Machine.execIncZp0 d s
  | .iscZp0 d => Sys2Proof.Machine.execIscZp0 d s
  | .inxImp => Sys2Proof.Machine.execInxImp s
  | .sbcImm d => Sys2Proof.Machine.execSbcImm d s
  | .nopImp => Sys2Proof.Machine.execNopImp s
  | .sbcImmEB d => Sys2Proof.Machine.execSbcImmEB d s
  | .cpxAbs a => Sys2Proof.Machine.execCpxAbs a s
  | .sbcAbs a => Sys2Proof.Machine.execSbcAbs a s
  | .incAbs a => Sys2Proof.Machine.execIncAbs a s
  | .iscAbs a => Sys2Proof.Machine.execIscAbs a s
  | .beqRel d => Sys2Proof.Machine.execBeqRel d s
  | .sbcIzy d => Sys2Proof.Machine.execSbcIzy d s
  | .kilImpF2 => Sys2Proof.Machine.execKilImpF2 s
  | .iscIzy d => Sys2Proof.Machine.execIscIzy d s
  | .nopZpxF4 d => Sys2Proof.Machine.execNopZpxF4 d s
  | .sbcZpx d => Sys2Proof.Machine.execSbcZpx d s
  | .incZpx d => Sys2Proof.Machine.execIncZpx d s
  | .iscZpx d => Sys2Proof.Machine.execIscZpx d s
  | .sedImp => Sys2Proof.Machine.execSedImp s
  | .sbcAby a => Sys2Proof.Machine.execSbcAby a s
  | .nopImpFA => Sys2Proof.Machine.execNopImpFA s
  | .iscAby a => Sys2Proof.Machine.execIscAby a s
  | .nopAbxFC a => Sys2Proof.Machine.execNopAbxFC a s
  | .sbcAbx a => Sys2Proof.Machine.execSbcAbx a s
  | .incAbx a => Sys2Proof.Machine.execIncAbx a s
  | .iscAbx a => Sys2Proof.Machine.execIscAbx a s

end Sys2Proof.Machine
end

