-- ==== Sys2Proof/Machine/Dma.lean ====
section
/-! DEFINITION. The DMA engine (rules R390 to R392). -/

namespace Sys2Proof.Machine

/-- The CPU address of the byte the DMA engine reads next: `{dma.page, dma.off}`. -/
def Dma.source (m : Dma) : Addr := cat m.page m.off

/-- The read slot of `DmaStep` (R390). -/
def dmaReadSlot (s : State) : State :=
  let r := busRead s s.dma.source
  { r.2 with dma := { r.2.dma with data := r.1 } }

/-- The write slot of `DmaStep` (R390): the byte goes to OAM at the DMA offset; the wrap of the offset ends the
transfer. -/
def dmaWriteSlot (s : State) : State :=
  let off := s.dma.off + 1#8
  let last := decide (off = 0#8)
  { s with ppu := { s.ppu with oam := s.ppu.oam.write s.dma.off.toNat s.dma.data },
           dma := { s.dma with off := off, active := !last, dummy := last } }

/-- `DmaStep()` (R390): wait for an odd tick, then read on even ticks and write on odd ticks. -/
def dmaStep (s : State) : State :=
  if s.dma.dummy then
    if s.tick % 2 = 1 then { s with dma := { s.dma with dummy := false } } else s
  else if s.tick % 2 = 0 then dmaReadSlot s
  else dmaWriteSlot s

end Sys2Proof.Machine
end

