-- ==== Sys2Proof/Machine/PpuBackground.lean ====
section
/-! DEFINITION. The background pipeline: fetches, shifters, scroll increments and transfers (rules R345 to R354). -/

namespace Sys2Proof.Machine

/-- `FetchNametableByte()` (R346). -/
def fetchNametableByte (s : State) : State :=
  let r := ppuRead s (0x2000#14 ||| (s.ppu.v.setWidth 14 &&& 0x0FFF#14))
  { r.2 with ppu := { r.2.ppu with nxId := r.1 } }

/-- The address of the attribute byte (R347). -/
def attributeAddr (v : Loopy) : PpuAddr :=
  0x23C0#14 ||| ((nametableY v).setWidth 14 <<< 11) ||| ((nametableX v).setWidth 14 <<< 10) |||
    (((coarseY v >>> 2).setWidth 14) <<< 3) ||| (coarseX v >>> 2).setWidth 14

/-- The two bits of attribute byte `b` for the tile at `v` (R347). -/
def attributeBits (v : Loopy) (b : Byte) : BitVec 2 :=
  let b := if (coarseY v).getLsbD 1 then b >>> 4 else b
  let b := if (coarseX v).getLsbD 1 then b >>> 2 else b
  b.setWidth 2

/-- `FetchAttribute()` (R347). -/
def fetchAttribute (s : State) : State :=
  let r := ppuRead s (attributeAddr s.ppu.v)
  { r.2 with ppu := { r.2.ppu with nxAttr := attributeBits s.ppu.v r.1 } }

/-- The address of the low pattern byte (R348). -/
def patternAddr (q : Ppu) : PpuAddr :=
  ((BitVec.ofBool q.patternBackground).setWidth 14 <<< 12) ||| (q.nxId.setWidth 14 <<< 4) ||| (fineY q.v).setWidth 14

/-- `FetchPatternLow()` (R348). -/
def fetchPatternLow (s : State) : State :=
  let r := ppuRead s (patternAddr s.ppu)
  { r.2 with ppu := { r.2.ppu with nxLo := r.1 } }

/-- `FetchPatternHigh()` (R348). -/
def fetchPatternHigh (s : State) : State :=
  let r := ppuRead s (patternAddr s.ppu + 8#14)
  { r.2 with ppu := { r.2.ppu with nxHi := r.1 } }

/-- A shifter with its low byte replaced (R349). -/
def loadLow (sh : BitVec 16) (b : Byte) : BitVec 16 := (sh &&& 0xFF00#16) ||| b.setWidth 16

/-- `LoadBgShifters()` (R349). -/
def loadBgShifters (q : Ppu) : Ppu :=
  { q with shPatLo := loadLow q.shPatLo q.nxLo
           shPatHi := loadLow q.shPatHi q.nxHi
           shAttLo := loadLow q.shAttLo (if q.nxAttr.getLsbD 0 then 0xFF#8 else 0x00#8)
           shAttHi := loadLow q.shAttHi (if q.nxAttr.getLsbD 1 then 0xFF#8 else 0x00#8) }

/-- One dot of a sprite slot: count X down, or shift the patterns (R350). -/
def Sprite.tick (p : Sprite) : Sprite :=
  if p.x = 0#8 then { p with lo := p.lo <<< 1, hi := p.hi <<< 1 } else { p with x := p.x - 1#8 }

/-- The first `n` slots ticked (R350). -/
def tickSprites : Nat → List Sprite → List Sprite
  | 0, l => l
  | _, [] => []
  | n + 1, p :: rest => p.tick :: tickSprites n rest

/-- The background part of `UpdateShifters(d)` (R350). -/
def shiftBackground (q : Ppu) : Ppu :=
  if q.renderBackground then
    { q with shPatLo := q.shPatLo <<< 1, shPatHi := q.shPatHi <<< 1, shAttLo := q.shAttLo <<< 1,
             shAttHi := q.shAttHi <<< 1 }
  else q

/-- `UpdateShifters(d)` (R350). -/
def updateShifters (q : Ppu) (d : Nat) : Ppu :=
  let q := shiftBackground q
  if q.renderSprites && decide (d ≤ 257) then { q with sprites := tickSprites q.secCount q.sprites } else q

/-- `v` after `IncrementCoarseX` (R351). -/
def nextCoarseX (v : Loopy) : Loopy :=
  if coarseX v = 31#5 then setNametableX (setCoarseX v 0#5) (~~~(nametableX v)) else setCoarseX v (coarseX v + 1#5)

/-- `v` after `IncrementY` (R352). -/
def nextY (v : Loopy) : Loopy :=
  if fineY v ≠ 7#3 then setFineY v (fineY v + 1#3)
  else
    let v := setFineY v 0#3
    if coarseY v = 29#5 then setNametableY (setCoarseY v 0#5) (~~~(nametableY v))
    else if coarseY v = 31#5 then setCoarseY v 0#5
    else setCoarseY v (coarseY v + 1#5)

/-- `v` with the horizontal fields of `t` (R353). -/
def copyX (v t : Loopy) : Loopy := setNametableX (setCoarseX v (coarseX t)) (nametableX t)

/-- `v` with the vertical fields of `t` (R354). -/
def copyY (v t : Loopy) : Loopy := setNametableY (setCoarseY (setFineY v (fineY t)) (coarseY t)) (nametableY t)

/-- `IncrementCoarseX()` (R351). -/
def incrementCoarseX (q : Ppu) : Ppu := if q.rendering then { q with v := nextCoarseX q.v } else q

/-- `IncrementY()` (R352). -/
def incrementY (q : Ppu) : Ppu := if q.rendering then { q with v := nextY q.v } else q

/-- `TransferX()` (R353). -/
def transferX (q : Ppu) : Ppu := if q.rendering then { q with v := copyX q.v q.t } else q

/-- `TransferY()` (R354). -/
def transferY (q : Ppu) : Ppu := if q.rendering then { q with v := copyY q.v q.t } else q

end Sys2Proof.Machine
end

