-- ==== Sys2Proof/Machine/PpuCompose.lean ====
section
/-! DEFINITION. Compositing: the background and sprite pixels, the multiplexer, the sprite-zero test, the palette lookup
and the framebuffer (rules R360 to R371). -/

namespace Sys2Proof.Machine

/-- A 2-bit pixel from its two planes. -/
def pixel (hi lo : Bool) : BitVec 2 := BitVec.ofBool hi ++ BitVec.ofBool lo

/-- A pixel with its palette number, 0 to 7. -/
structure Pixel where
  px : BitVec 2
  pal : BitVec 3
  deriving DecidableEq, Repr

/-- `BackgroundPixel(d)` (R361). -/
def backgroundPixel (q : Ppu) (d : Nat) : Pixel :=
  if q.renderBackground && (q.backgroundLeft || decide (9 ≤ d)) then
    let bit := 15 - q.fx.toNat
    ⟨pixel (q.shPatHi.getLsbD bit) (q.shPatLo.getLsbD bit),
     (pixel (q.shAttHi.getLsbD bit) (q.shAttLo.getLsbD bit)).setWidth 3⟩
  else ⟨0#2, 0#3⟩

/-- A sprite pixel: the pixel, whether the sprite is in front of the background, whether it is slot 0 (R362). -/
structure SpritePix where
  pix : Pixel
  front : Bool
  from0 : Bool
  deriving DecidableEq, Repr

/-- No sprite pixel (R362). -/
def SpritePix.clear : SpritePix := ⟨⟨0#2, 0#3⟩, false, false⟩

/-- A slot's pixel: bit 7 of its shifters (R362). -/
def Sprite.px (p : Sprite) : BitVec 2 := pixel (p.hi.getLsbD 7) (p.lo.getLsbD 7)

/-- The loop of `SpritePixel` from slot `i` on (R362): the first opaque pixel among `n` slots wins. -/
def firstOpaque : Nat → Nat → List Sprite → SpritePix
  | 0, _, _ => SpritePix.clear
  | _, _, [] => SpritePix.clear
  | n + 1, i, p :: rest =>
    if p.x = 0#8 ∧ p.px ≠ 0#2 then
      ⟨⟨p.px, (p.attr.setWidth 2).setWidth 3 + 4#3⟩, !p.attr.getLsbD 5, decide (i = 0)⟩
    else firstOpaque n (i + 1) rest

/-- `SpritePixel(d)` (R362). -/
def spritePixel (q : Ppu) (d : Nat) : SpritePix :=
  if q.renderSprites && (q.spritesLeft || decide (9 ≤ d)) then firstOpaque q.secCount 0 q.sprites
  else SpritePix.clear

/-- `Mux` (R363). -/
def mux (bg : Pixel) (fg : SpritePix) : Pixel :=
  if bg.px = 0#2 then (if fg.pix.px = 0#2 then ⟨0#2, 0#3⟩ else fg.pix)
  else if fg.pix.px = 0#2 then bg
  else if fg.front then fg.pix else bg

/-- Whether dot `d` raises sprite-zero-hit (R368). -/
def spriteZeroTest (q : Ppu) (bg : Pixel) (fg : SpritePix) (d : Nat) : Bool :=
  decide (bg.px ≠ 0#2) && decide (fg.pix.px ≠ 0#2) && fg.from0 && q.s0Possible && decide (d ≠ 256)

/-- `PaletteLookup(pl, px)` (R370): the 6-bit colour index. -/
def paletteLookup (q : Ppu) (c : Pixel) : BitVec 6 :=
  (q.pal.read (palIndex (0x3F00#14 ||| (c.pal.setWidth 14 <<< 2) ||| c.px.setWidth 14)) &&& q.palMask).setWidth 6

/-- The framebuffer index of row `y`, column `x` (R371). -/
def fbIndex (y x : Nat) : Nat := 256 * y + x

/-- `Composite(L, d)` (R360). -/
def composite (q : Ppu) (l d : Nat) : Ppu :=
  let bg := backgroundPixel q d
  let fg := spritePixel q d
  { q with s0Rendering := fg.from0,
           spriteZeroHit := q.spriteZeroHit || spriteZeroTest q bg fg d,
           fb := q.fb.write (fbIndex l (d - 1)) (paletteLookup q (mux bg fg)) }

end Sys2Proof.Machine
end

