-- ==== Sys2Proof/Machine/PpuSprites.lean ====
section
/-! DEFINITION. The sprite pipeline: evaluation and pattern fetch (rules R355 to R357). -/

namespace Sys2Proof.Machine

/-- The height of a sprite (R355). -/
def Ppu.spriteHeight (q : Ppu) : Nat := if q.tallSprites then 16 else 8

/-- OAM entry `n` as a slot of the secondary buffer, its shifters cleared (R50, R355). -/
def oamEntry (oam : Mem 8) (n : Nat) : Sprite :=
  { y := oam.read (4 * n), id := oam.read (4 * n + 1), attr := oam.read (4 * n + 2), x := oam.read (4 * n + 3),
    lo := 0#8, hi := 0#8 }

/-- Whether OAM entry `n` is in range for the line after `l` (R355): `0 <= l - Y < h`. -/
def inRange (q : Ppu) (l : Int) (n : Nat) : Bool :=
  let diff := l - ((q.oam.read (4 * n)).toNat : Int)
  decide (0 ≤ diff ∧ diff < (q.spriteHeight : Int))

/-- The PPU at the start of `SpriteEvaluate`: an empty secondary buffer (R355). -/
def clearSecondary (q : Ppu) : Ppu :=
  { q with sprites := List.replicate 8 Sprite.empty, secCount := 0, s0Possible := false }

/-- One turn of the evaluation loop, for OAM entry `n` (R355). -/
def evaluateEntry (l : Int) (q : Ppu) (n : Nat) : Ppu :=
  if inRange q l n then
    if q.secCount < 8 then
      { q with s0Possible := q.s0Possible || decide (n = 0),
               sprites := q.sprites.set q.secCount (oamEntry q.oam n), secCount := q.secCount + 1 }
    else { q with spriteOverflow := true }
  else q

/-- `SpriteEvaluate(L)` (R355). -/
def spriteEvaluate (l : Int) (q : Ppu) : Ppu := (List.range 64).foldl (evaluateEntry l) (clearSecondary q)

/-- The address of a slot's low pattern byte on line `l` (R356), the row taken modulo 2^14 (log 11). -/
def spriteAddr (q : Ppu) (l : Int) (p : Sprite) : PpuAddr :=
  let row := l - (p.y.toNat : Int)
  let row14 := BitVec.ofInt 14 row
  let vflip := p.attr.getLsbD 7
  if q.tallSprites then
    let top := (decide (row < 8)) ^^ vflip
    let tile := if top then p.id &&& 0xFE#8 else (p.id &&& 0xFE#8) + 1#8
    let r := if vflip then 7#14 - (row14 &&& 7#14) else row14 &&& 7#14
    (((p.id &&& 1#8).setWidth 14) <<< 12) ||| (tile.setWidth 14 <<< 4) ||| r
  else
    let r := if vflip then 7#14 - row14 else row14
    ((BitVec.ofBool q.patternSprite).setWidth 14 <<< 12) ||| (p.id.setWidth 14 <<< 4) ||| r

/-- One turn of the fetch loop, for slot `i` (R356): low plane, then high plane, reversed under horizontal flip. -/
def fetchSprite (l : Int) (s : State) (i : Nat) : State :=
  let p := s.ppu.sprites.getD i Sprite.empty
  let a := spriteAddr s.ppu l p
  let lo := ppuRead s a
  let hi := ppuRead lo.2 (a + 8#14)
  let flip := fun b => if p.attr.getLsbD 6 then reverse8 b else b
  { hi.2 with ppu := { hi.2.ppu with sprites := hi.2.ppu.sprites.set i { p with lo := flip lo.1, hi := flip hi.1 } } }

/-- `SpriteFetch(L)` (R356), in slot order. -/
def spriteFetch (l : Int) (s : State) : State := (List.range s.ppu.secCount).foldl (fetchSprite l) s

end Sys2Proof.Machine
end

