-- ==== Sys2Proof/Machine/PpuClock.lean ====
section
/-! DEFINITION. The dot clock (rules R330 to R340). -/

namespace Sys2Proof.Machine

/-- `f` on the PPU. -/
def State.onPpu (s : State) (f : Ppu → Ppu) : State := { s with ppu := f s.ppu }

/-- `f` where `c` holds. -/
def onlyIf (c : Bool) (f : State → State) (s : State) : State := if c then f s else s

/-- `Advance()` (R331). -/
def advance (q : Ppu) : Ppu :=
  if q.dot + 1 = 341 then
    if q.scanline + 1 = 261 then { q with dot := 0, scanline := -1, frameComplete := true }
    else { q with dot := 0, scanline := q.scanline + 1 }
  else { q with dot := q.dot + 1 }

/-- `SetVblank()` (R332). -/
def setVblank (q : Ppu) : Ppu := { q with vblank := true, nmiReq := q.nmiReq || q.enableNmi }

/-- `ClearFlags()` (R332). -/
def clearFlags (q : Ppu) : Ppu :=
  { q with vblank := false, spriteOverflow := false, spriteZeroHit := false,
           sprites := q.sprites.map (fun p => { p with lo := 0#8, hi := 0#8 }) }

/-- The fetch windows (R330). -/
def inFetchWindow (d : Nat) : Bool := decide (2 ≤ d ∧ d ≤ 257) || decide (321 ≤ d ∧ d ≤ 337)

/-- The action of fetch phase `(d - 1) mod 8` (R330, R345). -/
def fetchPhase (d : Nat) (s : State) : State :=
  match (d - 1) % 8 with
  | 0 => fetchNametableByte (s.onPpu loadBgShifters)
  | 2 => fetchAttribute s
  | 4 => fetchPatternLow s
  | 6 => fetchPatternHigh s
  | 7 => s.onPpu incrementCoarseX
  | _ => s

/-- A dot of the fetch windows: the shifters, then the phase's action (R330). -/
def fetchDot (d : Nat) (s : State) : State := fetchPhase d (s.onPpu (fun q => updateShifters q d))

/-- `Mapper.onScanline()` (R333). -/
def scanlineHook (s : State) : State := { s with mapper := s.mapper.onScanline }

/-- The part of `PPU.clock()` on lines -1 to 239, in the order of rule R330; `ren` is the value at the start of the
call. -/
def renderDot (l : Int) (d : Nat) (ren : Bool) (s : State) : State :=
  let s := onlyIf (decide (l = -1 ∧ d = 1)) (·.onPpu clearFlags) s
  let s := onlyIf (inFetchWindow d) (fetchDot d) s
  let s := onlyIf (decide (d = 256)) (·.onPpu incrementY) s
  let s := onlyIf (decide (d = 257)) (·.onPpu (fun q => transferX (loadBgShifters q))) s
  let s := onlyIf (decide (d = 338 ∨ d = 340)) fetchNametableByte s
  let s := onlyIf (decide (l = -1 ∧ 280 ≤ d ∧ d ≤ 304)) (·.onPpu transferY) s
  let s := onlyIf (decide (d = 257)) (·.onPpu (spriteEvaluate l)) s
  let s := onlyIf (decide (d = 340)) (spriteFetch l) s
  onlyIf (decide (d = 260) && ren) scanlineHook s

/-- `PPU.clock()` (R330). -/
def ppuClock (s : State) : State :=
  let l := s.ppu.scanline
  let d := s.ppu.dot
  let s := onlyIf (decide (-1 ≤ l ∧ l ≤ 239)) (renderDot l d s.ppu.rendering) s
  let s := onlyIf (decide (l = 241 ∧ d = 1)) (·.onPpu setVblank) s
  let s := onlyIf (decide (0 ≤ l ∧ l ≤ 239 ∧ 1 ≤ d ∧ d ≤ 256)) (·.onPpu (fun q => composite q l.toNat d)) s
  s.onPpu advance

end Sys2Proof.Machine
end

