-- ==== Sys2Proof/Machine/CpuClock.lean ====
section
/-! DEFINITION. The instruction fetch, `CPU.clock()` and `Bus.clock()` (rules R130 to R132, R380 to R388). -/

namespace Sys2Proof.Machine

/-- A byte fetched at `PC`, which goes up by one modulo 2^16 (R28, R132). -/
def fetchByte (s : State) : Byte × State :=
  let r := busRead s s.cpu.pc
  (r.1, r.2.setPc (s.cpu.pc + 1#16))

/-- The instruction at `PC`, its bytes fetched in ascending order and `PC` past them (R110, R130, R132; log 16). -/
def fetchInstr (s : State) : Instr × State :=
  let op := fetchByte s
  match opcodeShape op.1 with
  | .one i => (i, op.2)
  | .two f =>
    let d := fetchByte op.2
    (f d.1, d.2)
  | .three f =>
    let l := fetchByte op.2
    let h := fetchByte l.2
    (f (cat h.1 l.1), h.2)

/-- `ExecuteInstruction()` (R130). -/
def executeInstruction (s : State) : Result :=
  let f := fetchInstr s
  exec f.1 f.2

/-- The count after the productive cycle (R131): a halt opcode leaves `cpu.cyc = 0`, every other instruction has spent
one of its cycles. -/
def afterProductive (s : State) : State := if s.cpu.halted then s.setCyc 0 else s.setCyc (s.cpu.cyc - 1)

/-- `f` after an outcome that is a next state. -/
def thenNext (r : Result) (f : State → State) : Result :=
  match r with
  | .next s => .next (f s)
  | .fault x => .fault x
  | .refused x => .refused x

/-- `CPU.clock()` (R131). -/
def cpuClock (s : State) : Result :=
  if s.cpu.halted then .next s
  else if s.cpu.cyc = 0 then thenNext (executeInstruction s) afterProductive
  else .next (s.setCyc (s.cpu.cyc - 1))

/-- The CPU slot of a tick (R380, R382): every third tick, the DMA engine's while a transfer is active, else the
CPU's. -/
def cpuSlot (s : State) : Result :=
  if s.tick % 3 = 0 then (if s.dma.active then .next (dmaStep s) else cpuClock s) else .next s

/-- The NMI poll (R380, R385). -/
def pollNmi (s : State) : State :=
  if s.ppu.nmiReq then cpuNmi (s.onPpu (fun q => { q with nmiReq := false })) else s

/-- The IRQ poll (R380, R386): acknowledged whether or not the CPU takes it. -/
def pollIrq (s : State) : State :=
  if s.mapper.irqPending then cpuIrq { s with mapper := s.mapper.irqAcknowledge } else s

/-- The end of a tick: NMI poll, IRQ poll, `bus.tick + 1` (R380). -/
def endTick (s : State) : State :=
  let s := pollIrq (pollNmi s)
  { s with tick := s.tick + 1 }

/-- `Bus.clock()` (R380): the PPU's dot, the CPU slot, the interrupt polls, the tick count. -/
def busClock (s : State) : Result := thenNext (cpuSlot (ppuClock s)) endTick

end Sys2Proof.Machine
end

