-- ==== Sys2Proof/Machine/Place.lean ====
section
/-! DEFINITION. Placing bytes where the CPU fetches its next instruction: a load of program bytes from outside the machine
(log 4, log 17). No instruction uses it. -/

namespace Sys2Proof.Machine

/-- Whether CPU address `a` reads a memory cell: cartridge ROM or RAM, or console RAM. -/
def isMemory (s : State) (a : Addr) : Bool :=
  match s.mapper.cpuMapRead s.cart s.mapperRam a with
  | .mapped _ | .direct _ => true
  | .declined => decide (a.toNat ≤ 0x1FFF)

/-- `v` in the memory cell that CPU address `a` reads; no change where `a` reads none. -/
def placeByte (s : State) (a : Addr) (v : Byte) : State :=
  match s.mapper.cpuMapRead s.cart s.mapperRam a with
  | .mapped o => { s with cart := { s.cart with prg := s.cart.prg.write o v } }
  | .direct _ => { s with mapperRam := s.mapperRam.write (a.toNat % 0x2000) v }
  | .declined => if a.toNat ≤ 0x1FFF then { s with ram := s.ram.write (a.toNat % 0x800) v } else s

/-- The bytes `vs` in the cells that `a`, `a + 1`, ... read. -/
def placeBytes (s : State) (a : Addr) : List Byte → State
  | [] => s
  | v :: rest => placeBytes (placeByte s a v) (a + 1#16) rest

/-- `PC` where three bytes can be placed from it on; otherwise 0x0000, in console RAM. -/
def placeablePc (s : State) : Addr :=
  if isMemory s s.cpu.pc && isMemory s (s.cpu.pc + 1#16) && isMemory s (s.cpu.pc + 2#16) then s.cpu.pc else 0#16

/-- The machine with `vs` as the bytes of its next instruction, ready to run it in the next tick: a CPU slot, no cycle
owed, not halted, no DMA active. -/
def placeInstr (s : State) (vs : List Byte) : State :=
  let pc := placeablePc s
  let s := placeBytes s pc vs
  { s with cpu := { s.cpu with pc := pc, cyc := 0, halted := false },
           dma := { s.dma with active := false, dummy := true },
           tick := s.tick - s.tick % 3 }

end Sys2Proof.Machine
end

