-- ==== Sys2Proof/Machine/Step.lean ====
section
/-! DEFINITION. The machine's step: one call of `Bus.clock()` (rule R380, log 1). -/

namespace Sys2Proof.Machine

/-- One tick of the machine (R380). -/
def step (s : State) : Host.Outcome State Fault Refusal := busClock s

/-- `s` with the instruction whose bits are `w` placed where `step` fetches its next instruction, so that the next step
runs it (log 17). -/
def State.withFetchWord (s : State) (nbits w : Nat) : State := placeInstr s (tableWordBytes nbits w)

end Sys2Proof.Machine
end

