-- ==== Sys2Proof/Machine/Reset.lean ====
section
/-! DEFINITION. Reset and power-on (rules R410, R411, R510 to R517). -/

namespace Sys2Proof.Machine

/-- `PPU.reset()` (R514, values of R54): registers and pipeline; the five memories keep their contents. -/
def ppuReset (q : Ppu) : Ppu :=
  { ctrl := 0#8, mask := 0#8, vblank := false, spriteZeroHit := false, spriteOverflow := false, w := false,
    v := 0#15, t := 0#15, fx := 0#3, oamaddr := 0#8, rdbuf := 0#8, scanline := 0, dot := 0, nmiReq := false,
    frameComplete := false, nt := q.nt, pal := q.pal, chrRam := q.chrRam, oam := q.oam,
    sprites := List.replicate 8 Sprite.empty, secCount := 0, s0Possible := false, s0Rendering := false,
    nxId := 0#8, nxAttr := 0#2, nxLo := 0#8, nxHi := 0#8, shPatLo := 0#16, shPatHi := 0#16, shAttLo := 0#16,
    shAttHi := 0#16, fb := q.fb }

/-- `CPU.reset()` (R512): the vector is read through the Bus. -/
def cpuReset (s : State) : State :=
  let r := read16 s resetVector
  { r.2 with cpu := { a := 0#8, x := 0#8, y := 0#8, sp := 0xFD#8, p := 0x24#8, pc := r.1, cyc := 7, halted := false } }

/-- The part of `Bus.reset()` before `CPU.reset()` (R510): Mapper, PPU, Bus registers. -/
def resetDevices (s : State) : State :=
  { s with mapper := s.mapper.reset s.cart.hdrMirroring, ppu := ppuReset s.ppu, ctlShift0 := 0#8, ctlShift1 := 0#8,
           dma := { page := 0#8, off := 0#8, data := 0#8, dummy := true, active := false }, tick := 0 }

/-- `Bus.reset()` (R510): a host action between two ticks. -/
def busReset (s : State) : State := cpuReset (resetDevices s)

/-- The launch parameters (R8, R411): the cartridge, its Mapper variant, the power-on contents of the memories and the
host's input bytes. -/
structure Launch where
  cart : Cart
  mapper : Mapper
  ram : Mem 8
  nt : Mem 8
  pal : Mem 8
  chrRam : Mem 8
  oam : Mem 8
  mapperRam : Mem 8
  fb : Mem 6
  ctlIn0 : Byte
  ctlIn1 : Byte
  deriving DecidableEq, Repr

/-- The machine's initial state (R411, R510): the memories at their launch contents, then `Bus.reset()`. -/
def powerOn (k : Launch) : State :=
  busReset { State.reset with
    ppu := { Ppu.reset with nt := k.nt, pal := k.pal, chrRam := k.chrRam, oam := k.oam, fb := k.fb }
    ram := k.ram, mapper := k.mapper, mapperRam := k.mapperRam, cart := k.cart, ctlIn0 := k.ctlIn0, ctlIn1 := k.ctlIn1 }

end Sys2Proof.Machine
end

