-- ==== Sys2Proof/Machine/HostSide.lean ====
section
/-! DEFINITION. What the host may do between two ticks and what it may see (rules R17, R402, R410 to R413, R371). -/

namespace Sys2Proof.Machine

/-- The button bits of a controller byte (R402). -/
inductive Button where
  | right | left | down | up | start | select | b | a
  deriving DecidableEq, Repr

/-- The mask of a button in `ctl_in` (R402). -/
def Button.mask : Button → Byte
  | .right => 0x01#8
  | .left => 0x02#8
  | .down => 0x04#8
  | .up => 0x08#8
  | .start => 0x10#8
  | .select => 0x20#8
  | .b => 0x40#8
  | .a => 0x80#8

/-- The host's ways to act on the machine (R410). -/
inductive HostAction where
  /-- Call `Bus.clock()`. -/
  | clock
  /-- Call `Bus.reset()`. -/
  | reset
  /-- Set the two input bytes. -/
  | setControllers (c0 c1 : Byte)
  /-- Clear `ppu.frame_complete` (R412). -/
  | clearFrameComplete
  deriving DecidableEq, Repr

/-- The machine after a host action (R410; log 15). -/
def hostAct (s : State) : HostAction → Result
  | .clock => busClock s
  | .reset => .next (busReset s)
  | .setControllers c0 c1 => .next { s with ctlIn0 := c0, ctlIn1 := c1 }
  | .clearFrameComplete => .next (s.onPpu (fun q => { q with frameComplete := false }))

/-- What the host sees at row `y`, column `x` (R371, R412): the colour index through `cfg.RGB`. -/
def videoOut (s : State) (y x : Nat) : BitVec 32 := Config.rgb (s.ppu.fb.read (fbIndex y x))

end Sys2Proof.Machine
end

