-- ==== Sys2Proof/Safety.lean ====
section
/-! DEFINITION. The terms statements use: the invariants of 10_state.md, what an instruction leaves alone, what an
instruction that reads, writes or modifies its operand does, the cartridge's banks, and what a dot does by grid position. -/

namespace Sys2Proof.Machine

/-- A memory of `size` cells: canonical, and no index outside (R47 to R50, R53, R56, R64). -/
def Mem.ok {w : Nat} (m : Mem w) (size : Nat) : Prop := m.wf = true ∧ m.within size = true

/-- The cartridge holds what its bank counts say (R62): at least one PRG bank, each ROM canonical and of its size. -/
structure Cart.Ok (c : Cart) : Prop where
  banks : 1 ≤ c.prgBanks
  prg : c.prg.ok c.prgSize
  chr : c.chr.ok c.chrSize

/-- The CPU's invariant: U reads as 1 and B as 0 in the register (R25, R26); a halted CPU owes no cycle (R131, R280). -/
structure Cpu.Ok (c : Cpu) : Prop where
  unused : getFlag c.p .U = true
  break_ : getFlag c.p .B = false
  halt : c.halted = true → c.cyc = 0

/-- The PPU's invariant: the beam stays on the 262 x 341 grid (R44, R331), the secondary buffer keeps its eight slots
and its count at most 8 (R51), the memories keep their sizes (R47 to R50, R53). -/
structure Ppu.Ok (q : Ppu) : Prop where
  line : -1 ≤ q.scanline ∧ q.scanline ≤ 260
  dot : q.dot ≤ 340
  slots : q.sprites.length = 8
  count : q.secCount ≤ 8
  nt : q.nt.ok 0x800
  pal : q.pal.ok 0x20
  chrRam : q.chrRam.ok 0x2000
  oam : q.oam.ok 0x100
  fb : q.fb.ok 61440

/-- The DMA engine's invariant: "`dma.dummy` is already true whenever no transfer is running" (R86). -/
def Dma.Ok (m : Dma) : Prop := m.active = false → m.dummy = true

/-- The Mapper's invariant: the serial register has taken at most four bits (R435). -/
def Mapper.Ok : Mapper → Prop
  | .shift r => r.count ≤ 4
  | _ => True

/-- The machine's invariant. -/
structure State.Inv (s : State) : Prop where
  cpu : s.cpu.Ok
  ppu : s.ppu.Ok
  dma : s.dma.Ok
  mapper : s.mapper.Ok
  ram : s.ram.ok 0x800
  mapperRam : s.mapperRam.ok 0x2000
  cart : s.cart.Ok

/-! ### Flags -/

/-- Every flag outside `fs` is the same in `q` as in `p`. -/
def FlagsKept (fs : List Flag) (p q : Byte) : Prop := ∀ f, f ∉ fs → getFlag q f = getFlag p f

/-- Z and N of status `p` describe the result `v` (R12). -/
def ZnOf (v p : Byte) : Prop := (getFlag p .Z = true ↔ v = 0#8) ∧ getFlag p .N = v.getLsbD 7

/-- `r` and status `p` are the sum of `a`, `m` and the carry `c` (R191): C is the carry out, V is set exactly when the
signed sum leaves -128 to 127. -/
def AddedTo (a m : Byte) (c : Nat) (r p : Byte) : Prop :=
  r.toNat = (a.toNat + m.toNat + c) % 256 ∧
    (getFlag p .C = true ↔ 256 ≤ a.toNat + m.toNat + c) ∧
    (getFlag p .V = true ↔ ¬(-128 ≤ a.toInt + m.toInt + c ∧ a.toInt + m.toInt + c ≤ 127)) ∧ ZnOf r p

/-- `r` and status `p` are `a` minus `m` minus the borrow `b` (R171, R190): C means no borrow, V is set exactly when the
signed difference leaves -128 to 127. -/
def SubtractedFrom (a m : Byte) (b : Nat) (r p : Byte) : Prop :=
  r.toNat = (a.toNat + 256 - m.toNat - b) % 256 ∧
    (getFlag p .C = true ↔ m.toNat + b ≤ a.toNat) ∧
    (getFlag p .V = true ↔ ¬(-128 ≤ a.toInt - m.toInt - b ∧ a.toInt - m.toInt - b ≤ 127)) ∧ ZnOf r p

/-- Status `p` compares `r` with `m` (R192). -/
def Compared (r m p : Byte) : Prop :=
  (getFlag p .C = true ↔ m.toNat ≤ r.toNat) ∧ (getFlag p .Z = true ↔ r = m) ∧
    (getFlag p .N = true ↔ 128 ≤ (r.toNat + 256 - m.toNat) % 256)

/-- The condition a branch mnemonic tests (R216 to R223). -/
def branchCondition (m : Mnemonic) (p : Byte) : Bool :=
  match m with
  | .BPL => !getFlag p .N
  | .BMI => getFlag p .N
  | .BVC => !getFlag p .V
  | .BVS => getFlag p .V
  | .BCC => !getFlag p .C
  | .BCS => getFlag p .C
  | .BNE => !getFlag p .Z
  | .BEQ => getFlag p .Z
  | _ => false

/-- The operations that may need the extra cycle (R133). -/
def mayNeedExtraCycle (m : Mnemonic) : Bool :=
  decide (m ∈ [.ADC, .AND, .CMP, .EOR, .LDA, .LDX, .LDY, .ORA, .SBC, .LAX, .LAS, .NOP])

/-! ### Frames -/

/-- `t` differs from `s` in CPU registers at most. -/
def SameOutsideCpu (s t : State) : Prop := t = { s with cpu := t.cpu }

/-- Every memory of the machine holds in `t` what it holds in `s`: every byte the CPU space shows outside the device
ports, and the memories behind it and behind the PPU. -/
structure SameMemory (s t : State) : Prop where
  bytes : ∀ a, isDevice a = false → busPeek t a = busPeek s a
  ram : t.ram = s.ram
  mapperRam : t.mapperRam = s.mapperRam
  cart : t.cart = s.cart
  nt : t.ppu.nt = s.ppu.nt
  pal : t.ppu.pal = s.ppu.pal
  chrRam : t.ppu.chrRam = s.ppu.chrRam
  oam : t.ppu.oam = s.ppu.oam
  fb : t.ppu.fb = s.ppu.fb

/-- Whether two CPU addresses show the same cell: the four images of console RAM (R83), else the address itself. -/
def sameCell (a b : Addr) : Bool :=
  if a.toNat ≤ 0x1FFF ∧ b.toNat ≤ 0x1FFF then decide (a.toNat % 0x800 = b.toNat % 0x800) else decide (a = b)

/-- Whether CPU address `a` is a cell that a store writes: console RAM, or the cartridge's RAM (R83, R421). -/
def isWritable (s : State) (a : Addr) : Bool :=
  decide (a.toNat ≤ 0x1FFF) || (decide (0x6000 ≤ a.toNat ∧ a.toNat < 0x8000) && s.mapper.hasRam)

/-- What one store of `v` to `ea` did between `s` and `t`, the CPU's registers apart: the Bus took one write; a cell that
can be written now reads `v`; every other byte of memory reads as before (behind a cartridge register write, at or above
0x8000, ROM stays and the bank shown may change); and each device changes only when `ea` is its address. -/
structure Stored (s t : State) (ea : Addr) (v : Byte) : Prop where
  write : SameOutsideCpu (busWrite s ea v) t
  holds : isWritable s ea = true → busPeek t ea = v
  bytes : ∀ a, isDevice a = false → sameCell ea a = false → (a.toNat < 0x8000 ∨ ea.toNat < 0x8000) →
    busPeek t a = busPeek s a
  cart : t.cart = s.cart
  mapper : ea.toNat < 0x8000 → t.mapper = s.mapper
  ppu : ¬(0x2000 ≤ ea.toNat ∧ ea.toNat ≤ 0x3FFF) → t.ppu = s.ppu
  dma : ea ≠ 0x4014#16 → t.dma = s.dma
  ctlShift0 : ea ≠ 0x4016#16 → t.ctlShift0 = s.ctlShift0
  ctlShift1 : ea ≠ 0x4017#16 → t.ctlShift1 = s.ctlShift1
  tick : t.tick = s.tick
  ctlIn : t.ctlIn0 = s.ctlIn0 ∧ t.ctlIn1 = s.ctlIn1

/-- What pushes did between `s` and `t`, the CPU's registers apart: the listed cells of console RAM hold the listed bytes,
every other byte the CPU space shows reads as before, and nothing outside console RAM changed. -/
structure Pushed (s t : State) (cells : List (Nat × Byte)) : Prop where
  onlyRam : t = { s with cpu := t.cpu, ram := t.ram }
  holds : ∀ c ∈ cells, t.ram.read c.1 = c.2
  bytes : ∀ a : Addr, (a.toNat ≤ 0x1FFF → ∀ c ∈ cells, a.toNat % 0x800 ≠ c.1) → busPeek t a = busPeek s a

/-- The cell of console RAM at stack slot `sp` (R23). -/
def stackCell (sp : Byte) : Nat := 0x100 + sp.toNat

/-! ### How an instruction completes -/

/-- The resolution of an instruction's operand, as `exec` starts it (R130). -/
def operandAt (i : Instr) (s : State) : Resolved × State := resolve (s.setCyc i.baseCycles) i.operand

/-- Whether an operand is behind a port whose read has a side effect (R77). -/
def Resolved.onDevice (r : Resolved) : Bool :=
  match r.loc with
  | .mem ea => isDevice ea
  | _ => false

/-- `i` completes on `s` without writing memory: `regs m crossed c` describes the CPU it leaves, `m` being the operand read
once; outside the CPU the machine is the one that read left, which is `s` itself where the operand is no device port. -/
def CompletesReading (i : Instr) (s : State) (regs : Byte → Bool → Cpu → Prop) : Prop :=
  let q := operandAt i s
  let m := readOperand q.2 q.1
  ∃ t, exec i s = .next t ∧ regs m.1 q.1.crossed t.cpu ∧ SameOutsideCpu m.2 t ∧ SameMemory s t ∧
    (q.1.onDevice = false → SameOutsideCpu s t)

/-- `i` completes on `s` touching CPU registers only. -/
def CompletesOnRegisters (i : Instr) (s : State) (regs : Cpu → Prop) : Prop :=
  ∃ t, exec i s = .next t ∧ regs t.cpu ∧ SameOutsideCpu s t ∧ SameMemory s t

/-- `i` completes on `s` by one store of `v` to its operand's address, without reading it; `regs c` describes the CPU it
leaves. -/
def CompletesStoring (i : Instr) (s : State) (v : Byte) (regs : Cpu → Prop) : Prop :=
  ∃ t ea, exec i s = .next t ∧ (operandAt i s).1.loc = .mem ea ∧ Stored s t ea v ∧ regs t.cpu

/-- `i` completes on `s` by one read of its operand `m` in memory and one store of `f m` to the same address;
`regs m c` describes the CPU it leaves. -/
def CompletesModifying (i : Instr) (s : State) (f : Byte → Byte) (regs : Byte → Cpu → Prop) : Prop :=
  ∃ t ea, exec i s = .next t ∧ (operandAt i s).1.loc = .mem ea ∧
    Stored (busRead s ea).2 t ea (f (busRead s ea).1) ∧ regs (busRead s ea).1 t.cpu

/-- `i` completes on `s` as a shift does: on `A` in mode IMP, else on its operand in memory, `f` giving the result and `c`
the carry; Z and N describe the result, and no other flag changes (R200). -/
def CompletesShifting (i : Instr) (s : State) (f : Byte → Byte) (c : Byte → Bool) : Prop :=
  (i.mode = .IMP → CompletesOnRegisters i s fun d =>
    d = { s.cpu with a := f s.cpu.a, p := d.p, cyc := i.baseCycles } ∧ ZnOf (f s.cpu.a) d.p ∧
      getFlag d.p .C = c s.cpu.a ∧ FlagsKept [.C, .Z, .N] s.cpu.p d.p) ∧
  (i.mode ≠ .IMP → CompletesModifying i s f fun m d =>
    d = { s.cpu with p := d.p, cyc := i.baseCycles } ∧ ZnOf (f m) d.p ∧ getFlag d.p .C = c m ∧
      FlagsKept [.C, .Z, .N] s.cpu.p d.p)

/-- The little-endian word that the CPU space shows at `a` (R74). -/
def wordAt (s : State) (a : Addr) : Addr := cat (busPeek s (a + 1#16)) (busPeek s a)

/-- An exception was taken between `s` and `t` (R474, R480): the return address, high byte first, and `status` lie on the
stack, `S` is 3 lower, `PC` is the word at the vector, I is set and no other flag or register but the count `cyc` changed. -/
def Entered (s t : State) (ret : Addr) (status : Byte) (vector : Addr) (cyc : Nat) : Prop :=
  Pushed s t [(stackCell s.cpu.sp, hi ret), (stackCell (s.cpu.sp - 1#8), lo ret), (stackCell (s.cpu.sp - 2#8), status)] ∧
    t.cpu = { s.cpu with sp := s.cpu.sp - 3#8, pc := wordAt s vector, p := t.cpu.p, cyc := cyc } ∧
    getFlag t.cpu.p .I = true ∧ FlagsKept [.I] s.cpu.p t.cpu.p

/-- The beam's position in the frame, 0 to 89341: 341 dots a line, 262 lines from line -1 on (R44, R331). -/
def Ppu.beam (q : Ppu) : Nat := ((q.scanline + 1) * 341).toNat + q.dot

/-- One slot of the DMA engine as the Bus gives it: `DmaStep`, the next slot three ticks later (R390). -/
def dmaSlot (s : State) : State := { dmaStep s with tick := s.tick + 3 }

/-! ### The cartridge's banks, in integer arithmetic (R430 to R458); `a` is a CPU address at or above 0x8000 -/

/-- What id 0 shows, and id 3 on the CPU side and id 2 on the PPU side (R430, R440, R443): PRG ROM in order, a single bank
twice; pattern memory in order. -/
def FixedBanks (c : Cart) (ram : Mem 8) (a : Addr) (e : PpuAddr) : Prop :=
  let prg := CpuMap.mapped (if c.prgBanks = 1 then a.toNat % 0x4000 else a.toNat % 0x8000)
  Mapper.fixed.cpuMapRead c ram a = prg ∧ (∀ x, (Mapper.chrSelect x).cpuMapRead c ram a = prg) ∧
    (c.chrBanks ≠ 0 → e.toNat < 0x2000 →
      Mapper.fixed.ppuMap c e = some e.toNat ∧ ∀ p, (Mapper.prgSelect p).ppuMap c e = some e.toNat)

/-- What id 1 shows (R435): `control` bits 3:2 choose the PRG mode, bit 4 the CHR mode, bits 1:0 the mirroring. -/
def ShiftBanks (c : Cart) (ram : Mem 8) (a : Addr) (e : PpuAddr) : Prop :=
  ∀ r : ShiftRegs,
    let size := 16384 * c.prgBanks
    let mode := r.control.toNat / 4 % 4
    let shown := (Mapper.shift r).cpuMapRead c ram a
    (mode = 0 ∨ mode = 1 → shown = .mapped ((r.prg.toNat / 2 * 0x8000 + a.toNat % 0x8000) % size)) ∧
    (mode = 2 → a.toNat < 0xC000 → shown = .mapped (a.toNat % 0x4000)) ∧
    (mode = 2 → 0xC000 ≤ a.toNat → shown = .mapped ((r.prg.toNat * 0x4000 + a.toNat % 0x4000) % size)) ∧
    (mode = 3 → a.toNat < 0xC000 → shown = .mapped ((r.prg.toNat * 0x4000 + a.toNat % 0x4000) % size)) ∧
    (mode = 3 → 0xC000 ≤ a.toNat → shown = .mapped (size - 0x4000 + a.toNat % 0x4000)) ∧
    (c.chrBanks ≠ 0 → e.toNat < 0x2000 →
      let bank := if e.toNat < 0x1000 then r.chrLo.toNat else r.chrHi.toNat
      (Mapper.shift r).ppuMap c e = some ((if r.control.getLsbD 4 then bank * 0x1000 + e.toNat % 0x1000
        else r.chrLo.toNat / 2 * 0x2000 + e.toNat) % (8192 * c.chrBanks))) ∧
    (Mapper.shift r).mirroringMode c = (match r.control.toNat % 4 with
      | 0 => .singleScreenLow
      | 1 => .singleScreenHigh
      | 2 => .vertical
      | _ => .horizontal)

/-- The mirroring a register write of ids 4 and 9 selects (R450, R455). -/
def mirroringWritten (d : Byte) : HdrMirroring := if d.toNat % 2 = 1 then .horizontal else .vertical

/-- What a CPU write of `d` to `a` does to the registers of id 4 (R450): `a & 0xE001` selects one of eight actions, and no
other register changes. -/
def ScanlineWrite (a : Addr) (d : Byte) : Prop :=
  ∀ r : ScanlineRegs,
    let port := a &&& 0xE001#16
    let after := (Mapper.scanline r).writeReg a d
    (port = 0x8000#16 → after = .scanline { r with
      target := BitVec.ofNat 3 d.toNat, prgMode := d.getLsbD 6, chrInv := d.getLsbD 7 }) ∧
    (port = 0x8001#16 → ∃ reg : Vector Byte 8, after = .scanline { r with reg := reg } ∧
      ∀ k : Fin 8, reg[k] = if k.val = r.target.toNat then d else r.reg[k]) ∧
    (port = 0xA000#16 → after = .scanline { r with mir := mirroringWritten d }) ∧
    (port = 0xA001#16 → after = .scanline r) ∧
    (port = 0xC000#16 → after = .scanline { r with irqLatch := d }) ∧
    (port = 0xC001#16 → after = .scanline { r with irqCounter := 0#8 }) ∧
    (port = 0xE000#16 → after = .scanline { r with irqEnable := false, irqActive := false }) ∧
    (port = 0xE001#16 → after = .scanline { r with irqEnable := true })

/-- What id 4 shows (R450): two switchable 8 KB PRG windows, the second last bank where `prg_mode` puts it, the last bank at
the top; two 2 KB and four 1 KB CHR windows, the halves swapped under `chr_inv`. -/
def ScanlineBanks (c : Cart) (ram : Mem 8) (a : Addr) (e : PpuAddr) : Prop :=
  ∀ r : ScanlineRegs,
    let shows := fun bank : Nat => (Mapper.scanline r).cpuMapRead c ram a =
      .mapped ((bank * 0x2000 + a.toNat % 0x2000) % (16384 * c.prgBanks))
    let last := 2 * c.prgBanks - 1
    (a.toNat < 0xA000 → shows (if r.prgMode then last - 1 else r.reg[6].toNat % 64)) ∧
    (0xA000 ≤ a.toNat → a.toNat < 0xC000 → shows (r.reg[7].toNat % 64)) ∧
    (0xC000 ≤ a.toNat → a.toNat < 0xE000 → shows (if r.prgMode then r.reg[6].toNat % 64 else last - 1)) ∧
    (0xE000 ≤ a.toNat → shows last) ∧
    (c.chrBanks ≠ 0 → e.toNat < 0x2000 →
      let slot := if r.chrInv then (e.toNat / 0x400 + 4) % 8 else e.toNat / 0x400
      let bank := match slot with
        | 0 => r.reg[0].toNat / 2 * 2
        | 1 => r.reg[0].toNat / 2 * 2 + 1
        | 2 => r.reg[1].toNat / 2 * 2
        | 3 => r.reg[1].toNat / 2 * 2 + 1
        | 4 => r.reg[2].toNat
        | 5 => r.reg[3].toNat
        | 6 => r.reg[4].toNat
        | _ => r.reg[5].toNat
      (Mapper.scanline r).ppuMap c e = some ((bank * 0x400 + e.toNat % 0x400) % (8192 * c.chrBanks))) ∧
    (Mapper.scanline r).mirroringMode c = (match r.mir with
      | .horizontal => .horizontal
      | .vertical => .vertical)

/-- What a CPU write of `d` to `a` does to the registers of id 9 (R455): the high digit of `a` selects one register, below
0xA000 none. -/
def LatchWrite (a : Addr) (d : Byte) : Prop :=
  ∀ r : LatchRegs,
    let digit := a.toNat / 0x1000
    let bank := BitVec.ofNat 5 d.toNat
    let after := (Mapper.latch r).writeReg a d
    (digit = 0x8 ∨ digit = 0x9 → after = .latch r) ∧
    (digit = 0xA → after = .latch { r with prg := BitVec.ofNat 4 d.toNat }) ∧
    (digit = 0xB → after = .latch { r with chrFd0 := bank }) ∧
    (digit = 0xC → after = .latch { r with chrFe0 := bank }) ∧
    (digit = 0xD → after = .latch { r with chrFd1 := bank }) ∧
    (digit = 0xE → after = .latch { r with chrFe1 := bank }) ∧
    (digit = 0xF → after = .latch { r with mir := mirroringWritten d })

/-- What id 9 shows (R455): one switchable 8 KB PRG window, the last three banks fixed (with one 16 KB bank the first of
them is bank -1 modulo the ROM's size, log 9); two 4 KB CHR windows, each with two registers that its latch chooses from. -/
def LatchBanks (c : Cart) (ram : Mem 8) (a : Addr) (e : PpuAddr) : Prop :=
  ∀ r : LatchRegs,
    let size := 16384 * c.prgBanks
    let shown := (Mapper.latch r).cpuMapRead c ram a
    (a.toNat < 0xA000 → shown = .mapped ((r.prg.toNat * 0x2000 + a.toNat % 0x2000) % size)) ∧
    (0xA000 ≤ a.toNat → shown = .mapped ((2 * size - 0x6000 + (a.toNat - 0xA000)) % size)) ∧
    (c.chrBanks ≠ 0 → e.toNat < 0x2000 →
      let bank := if e.toNat < 0x1000 then (if r.latch0 = .fd then r.chrFd0 else r.chrFe0)
        else (if r.latch1 = .fd then r.chrFd1 else r.chrFe1)
      (Mapper.latch r).ppuMap c e = some ((bank.toNat * 0x1000 + e.toNat % 0x1000) % (8192 * c.chrBanks))) ∧
    (Mapper.latch r).mirroringMode c = (match r.mir with
      | .horizontal => .horizontal
      | .vertical => .vertical)

/-- The latches of id 9 after a PPU read of `e` (R455): the four trigger ranges, and nothing anywhere else. -/
def LatchRegs.readAt (r : LatchRegs) (e : Nat) : LatchRegs :=
  { r with
    latch0 := if e = 0x0FD8 then .fd else if e = 0x0FE8 then .fe else r.latch0
    latch1 := if 0x1FD8 ≤ e ∧ e ≤ 0x1FDF then .fd else if 0x1FE8 ≤ e ∧ e ≤ 0x1FEF then .fe else r.latch1 }

/-! ### What a dot does, by grid position (R330) -/

/-- The lines on which the pipelines run (R330). -/
def Ppu.onLine (q : Ppu) : Bool := decide (-1 ≤ q.scanline ∧ q.scanline ≤ 239)

/-- The fetch windows (R330, decision D27 of the spec). -/
def Ppu.inWindow (q : Ppu) : Bool := q.onLine && decide (2 ≤ q.dot ∧ q.dot ≤ 257 ∨ 321 ≤ q.dot ∧ q.dot ≤ 337)

/-- Where the number of the tile at `v` lies (R346). -/
def Ppu.tileAt (q : Ppu) : PpuAddr := BitVec.ofNat 14 (0x2000 + q.v.toNat % 0x1000)

/-- Where its attribute byte lies: one of 8 by 8 a nametable (R347). -/
def Ppu.attributeAt (q : Ppu) : PpuAddr :=
  BitVec.ofNat 14 (0x23C0 + q.v.toNat / 0x400 % 4 * 0x400 + q.v.toNat / 0x80 % 8 * 8 + q.v.toNat / 4 % 8)

/-- Where the low pattern byte of the tile just numbered lies, on row `fine_y`; the high one is 8 further on (R348). -/
def Ppu.patternAt (q : Ppu) : PpuAddr :=
  BitVec.ofNat 14 ((if q.ctrl.getLsbD 4 then 0x1000 else 0) + q.nxId.toNat * 16 + q.v.toNat / 0x1000)

/-- The attribute byte's two bits for the quadrant of the tile at `v` (R347). -/
def Ppu.attributeFrom (q : Ppu) (b : Byte) : BitVec 2 :=
  BitVec.ofNat 2 (b.toNat / 2 ^ (4 * (q.v.toNat / 0x40 % 2) + 2 * (q.v.toNat / 2 % 2)))

/-- Where slot `i`'s low pattern byte lies at dot 340 (R356); the high one is 8 further on. -/
def Ppu.spriteAt (q : Ppu) (i : Nat) : PpuAddr := spriteAddr q q.scanline (q.sprites.getD i Sprite.empty)

/-- The pattern reads of the slots before slot `i`, in order (R356). -/
def Ppu.spriteReads (q : Ppu) (i : Nat) : List PpuAddr :=
  (List.range i).flatMap fun k => [q.spriteAt k, q.spriteAt k + 8#14]

/-- The PPU-space reads of a dot, in order (R345 to R348, R356). -/
def Ppu.dotReads (q : Ppu) : List PpuAddr :=
  if q.inWindow && decide (q.dot % 8 = 1) then [q.tileAt]
  else if q.inWindow && decide (q.dot % 8 = 3) then [q.attributeAt]
  else if q.inWindow && decide (q.dot % 8 = 5) then [q.patternAt]
  else if q.inWindow && decide (q.dot % 8 = 7) then [q.patternAt + 8#14]
  else if q.onLine && decide (q.dot = 338) then [q.tileAt]
  else if q.onLine && decide (q.dot = 340) then q.tileAt :: q.spriteReads q.secCount
  else []

/-- The machine after PPU-space reads, whose only effect is on id 9's latches (R325, R455). -/
def readsDone (s : State) (as : List PpuAddr) : State := as.foldl ppuTouch s

/-- The Mapper over a dot (R325, R333, R450, R455; decision D22 of the spec, log 10): id 4 counts at dot 260 with rendering
enabled; id 9's latches follow the dot's reads in order, where it has CHR ROM to claim them with; nothing else changes. -/
def MapperOverDot (s t : State) : Prop :=
  (∀ r, s.mapper = .scanline r →
    let hooked := s.ppu.onLine && decide (s.ppu.dot = 260) && (s.ppu.mask.getLsbD 3 || s.ppu.mask.getLsbD 4)
    let count := if r.irqCounter = 0#8 then r.irqLatch else r.irqCounter - 1#8
    t.mapper = .scanline { r with
      irqCounter := if hooked then count else r.irqCounter
      irqActive := r.irqActive || (hooked && decide (count = 0#8) && r.irqEnable) }) ∧
  (∀ r, s.mapper = .latch r →
    let read := s.ppu.dotReads.foldl (fun r a => r.readAt a.toNat) r
    t.mapper = .latch { r with
      latch0 := if s.cart.chrBanks = 0 then r.latch0 else read.latch0
      latch1 := if s.cart.chrBanks = 0 then r.latch1 else read.latch1 }) ∧
  ((∀ r, s.mapper ≠ .scanline r) → (∀ r, s.mapper ≠ .latch r) → t.mapper = s.mapper)

/-- The background pipeline over a dot (R345 to R350; decisions D27 and D28 of the spec). In the fetch windows the four
shifters move one bit left if Mask enables the background; then, by phase, the low bytes take the latches as they stood and
the next tile number is fetched, or the attribute bits, or the low or the high pattern byte. Dots 338 and 340 fetch a tile
number. No other dot changes a latch or a shifter. -/
def BackgroundOverDot (s : State) (r : Ppu) : Prop :=
  let q := s.ppu
  let phase := fun k : Nat => q.inWindow && decide (q.dot % 8 = k + 1)
  let moved := fun x : BitVec 16 => if q.inWindow && q.mask.getLsbD 3 then BitVec.ofNat 16 (2 * x.toNat) else x
  let loaded := fun (x : BitVec 16) (b : Nat) => if phase 0 then BitVec.ofNat 16 (x.toNat / 256 * 256 + b) else x
  r.nxId = (if phase 0 || (q.onLine && decide (q.dot = 338 ∨ q.dot = 340)) then ppuPeek s q.tileAt else q.nxId) ∧
  r.nxAttr = (if phase 2 then q.attributeFrom (ppuPeek s q.attributeAt) else q.nxAttr) ∧
  r.nxLo = (if phase 4 then ppuPeek s q.patternAt else q.nxLo) ∧
  r.nxHi = (if phase 6 then ppuPeek s (q.patternAt + 8#14) else q.nxHi) ∧
  r.shPatLo = loaded (moved q.shPatLo) q.nxLo.toNat ∧
  r.shPatHi = loaded (moved q.shPatHi) q.nxHi.toNat ∧
  r.shAttLo = loaded (moved q.shAttLo) (if q.nxAttr.toNat % 2 = 1 then 0xFF else 0) ∧
  r.shAttHi = loaded (moved q.shAttHi) (if q.nxAttr.toNat / 2 = 1 then 0xFF else 0)

/-- A slot's address at dot 340 (R356), on the rows of a sprite: the low plane's byte of the tile row, counted from the
bottom under vertical flip. On any other row the address is the model's (log 11). -/
def SpriteAddress (q : Ppu) : Prop :=
  ∀ p : Sprite,
    let row := (q.scanline - (p.y.toNat : Int)).toNat
    let flip := p.attr.getLsbD 7
    (p.y.toNat : Int) ≤ q.scanline →
    (q.ctrl.getLsbD 5 = false → row ≤ 7 ∨ row ≤ 15 ∧ flip = false → (spriteAddr q q.scanline p).toNat =
      (if q.ctrl.getLsbD 3 then 0x1000 else 0) + p.id.toNat * 16 + if flip then 7 - row else row) ∧
    (q.ctrl.getLsbD 5 = true → row ≤ 15 →
      let line := if flip then 15 - row else row
      (spriteAddr q q.scanline p).toNat =
        p.id.toNat % 2 * 0x1000 + (p.id.toNat / 2 * 2 + line / 8) * 16 + line % 8)

/-- The sprite pipeline over a dot (R332, R350, R355, R356; decisions D17 and D28 of the spec). Dot 1 of line -1 clears the
shifters; in the first window each slot in use counts its X down or, at 0, shifts, if Mask enables the sprites; dot 257
evaluates; dot 340 fetches the two pattern bytes of each slot in use, in slot order, reversed under horizontal flip. No
other dot changes a slot, and no slot out of use changes but at dots 1 and 257. -/
def SpritesOverDot (s : State) (r : Ppu) : Prop :=
  let q := s.ppu
  let evaluated := spriteEvaluate q.scanline q
  let evaluates := q.onLine && decide (q.dot = 257)
  r.secCount = (if evaluates then evaluated.secCount else q.secCount) ∧
  r.s0Possible = (if evaluates then evaluated.s0Possible else q.s0Possible) ∧
  r.spriteOverflow = (if evaluates then evaluated.spriteOverflow
    else if q.scanline = -1 ∧ q.dot = 1 then false else q.spriteOverflow) ∧
  r.s0Rendering = (if 0 ≤ q.scanline ∧ q.scanline ≤ 239 ∧ 1 ≤ q.dot ∧ q.dot ≤ 256 then (spritePixel r q.dot).from0
    else q.s0Rendering) ∧
  SpriteAddress q ∧
  r.sprites =
    if evaluates then evaluated.sprites
    else if q.scanline = -1 ∧ q.dot = 1 then q.sprites.map fun p => { p with lo := 0#8, hi := 0#8 }
    else q.sprites.mapIdx fun i p =>
      if q.secCount ≤ i then p
      else if q.inWindow && decide (q.dot ≤ 256) && q.mask.getLsbD 4 then
        (if p.x = 0#8 then { p with lo := BitVec.ofNat 8 (2 * p.lo.toNat), hi := BitVec.ofNat 8 (2 * p.hi.toNat) }
         else { p with x := BitVec.ofNat 8 (p.x.toNat - 1) })
      else if q.onLine && decide (q.dot = 340) then
        let u := readsDone s (q.tileAt :: q.spriteReads i)
        let plane := fun b : Byte => if p.attr.getLsbD 6 then b.reverse else b
        { p with lo := plane (ppuPeek u (q.spriteAt i))
                 hi := plane (ppuPeek (ppuTouch u (q.spriteAt i)) (q.spriteAt i + 8#14)) }
      else p

/-- Which pixels a dot of column `d - 1` takes from shifters `q` (R361, R362): the background's bit `15 - fx`; the first
slot in use whose X count is 0 and whose bit 7 is opaque; neither where its layer is off or hidden in the first eight
columns. -/
def PixelChoice (q : Ppu) (d : Nat) : Prop :=
  let planes := fun hi lo : Bool => BitVec.ofNat 2 (2 * bitNat hi + bitNat lo)
  let tap := 15 - q.fx.toNat
  let shows := fun p : Sprite => p.x = 0#8 ∧ planes (p.hi.getLsbD 7) (p.lo.getLsbD 7) ≠ 0#2
  let on := q.mask.getLsbD 4 && (q.mask.getLsbD 2 || decide (9 ≤ d))
  backgroundPixel q d =
    (if q.mask.getLsbD 3 && (q.mask.getLsbD 1 || decide (9 ≤ d)) then
      ⟨planes (q.shPatHi.getLsbD tap) (q.shPatLo.getLsbD tap),
        BitVec.ofNat 3 (2 * bitNat (q.shAttHi.getLsbD tap) + bitNat (q.shAttLo.getLsbD tap))⟩
     else ⟨0#2, 0#3⟩) ∧
  (on = false → spritePixel q d = ⟨⟨0#2, 0#3⟩, false, false⟩) ∧
  (on = true → (∀ p ∈ q.sprites.take q.secCount, ¬shows p) → spritePixel q d = ⟨⟨0#2, 0#3⟩, false, false⟩) ∧
  (on = true → ∀ (i : Nat) (p : Sprite), i < q.secCount → q.sprites[i]? = some p → shows p →
    (∀ k < i, ∀ p', q.sprites[k]? = some p' → ¬shows p') →
    spritePixel q d = ⟨⟨planes (p.hi.getLsbD 7) (p.lo.getLsbD 7), BitVec.ofNat 3 (p.attr.toNat % 4 + 4)⟩,
      decide (p.attr.getLsbD 5 = false), decide (i = 0)⟩)

end Sys2Proof.Machine
end

