-- ==== Sys2Proof/Certificates/Slice0/Obligations.lean ====
section
/-! DEFINITION. The statements about the model, listed in OBLIGATIONS.json: encoding, instructions, accesses, the PPU, the
cartridge, interrupts, the step and its invariant. -/

section

open Sys2Proof Sys2Proof.Machine

/-! ### Encoding -/

/-- Decoding an encoded instruction gives the instruction back, whatever bytes follow, for every instruction and every
operand; and every instruction is well formed (R110, R112, R114). -/
def Obligations.DecodeInvertsEncode : Prop :=
  ∀ (i : Instr) (rest : List Byte), i.wf = true ∧ decode (encode i ++ rest) = .ok (i, rest)

/-- What the decoder reads is what the encoder writes: no byte of an instruction is dropped (R110). -/
def Obligations.EncodeInvertsDecode : Prop :=
  ∀ (bs : List Byte) (i : Instr) (rest : List Byte), decode bs = .ok (i, rest) → encode i ++ rest = bs

/-- Every opcode byte decodes, to the mnemonic, mode and base count of its row of `TABLE`, and takes `LEN(mode)` bytes; a
byte list is refused only where it is shorter (R113). -/
def Obligations.EveryOpcodeByteDecodes : Prop :=
  ∀ (op : Byte) (rest : List Byte),
    let row := tableRow op
    let len := match row.2.1 with
      | .IMP => 1
      | .ABS | .ABX | .ABY | .IND => 3
      | .IMM | .ZP0 | .ZPX | .ZPY | .REL | .IZX | .IZY => 2
    (len ≤ rest.length + 1 →
      ∃ i, decode (op :: rest) = .ok (i, (op :: rest).drop len) ∧ (i.mnem, i.mode, i.baseCycles) = row) ∧
    (rest.length + 1 < len → decode (op :: rest) = .error (.noOperand op))

/-- Some words written out from the matrix of R114 and the operand order of R112, one or two a family. -/
def Obligations.SampleWordsDecode : Prop :=
  decode [0xA9#8, 0x10#8] = .ok (.ldaImm 0x10#8, []) ∧
  decode [0x9D#8, 0x34#8, 0x12#8] = .ok (.staAbx 0x1234#16, []) ∧
  decode [0xA1#8, 0xFE#8, 0x00#8] = .ok (.ldaIzx 0xFE#8, [0x00#8]) ∧
  decode [0xAA#8] = .ok (.taxImp, []) ∧
  decode [0x71#8, 0x80#8] = .ok (.adcIzy 0x80#8, []) ∧
  decode [0xC9#8, 0x01#8] = .ok (.cmpImm 0x01#8, []) ∧
  decode [0x6A#8] = .ok (.rorImp, []) ∧
  decode [0x6C#8, 0xFF#8, 0x02#8] = .ok (.jmpInd 0x02FF#16, []) ∧
  decode [0xD0#8, 0xFB#8] = .ok (.bneRel 0xFB#8, []) ∧
  decode [0x00#8, 0xEA#8] = .ok (.brkImp, [0xEA#8]) ∧
  decode [0x28#8] = .ok (.plpImp, []) ∧
  decode [0xEB#8, 0x01#8] = .ok (.sbcImmEB 0x01#8, []) ∧
  decode [0x9B#8, 0x00#8, 0x02#8] = .ok (.tasAby 0x0200#16, []) ∧
  decode [0x89#8, 0x00#8] = .ok (.nopImm89 0x00#8, []) ∧
  decode [0xF2#8] = .ok (.kilImpF2, []) ∧
  decode [0x8D#8, 0x14#8] = .error (.noOperand 0x8D#8) ∧
  decode [] = .error .noOpcode

/-! ### The step and its instruction -/

/-- A step that starts an instruction runs the one whose bytes stand at `PC`: after the tick's PPU dot (`u`), in a CPU
slot that no DMA owns, with no cycle owed and the CPU not halted, where no byte of the instruction lies at a device port.
The next state is that of `exec`, one cycle spent, then the interrupt polls and the tick count. The resolution and the
fetch are R130's and R132's (log 16: the order of the fetch's reads); that the whole effect falls in the instruction's
first cycle, of which one is then spent, is R131's decision D3 of the spec (log 1: one step is one tick); the order of
dot, CPU slot, polls and count, the tick tested before its increment, is R380's decision D10. In the second clause the
fetch itself may have side effects: the instruction is the one whose first byte `BusRead` gives, and the fetch leaves `PC`
past it and every memory as it was. -/
def Obligations.StepRunsDecodedInstruction : Prop :=
  (∀ (s : State) (i : Instr) (rest : List Byte),
    let u := ppuClock s
    let pc := u.cpu.pc
    s.tick % 3 = 0 → s.dma.active = false → s.cpu.halted = false → s.cpu.cyc = 0 →
    decode [busPeek u pc, busPeek u (pc + 1#16), busPeek u (pc + 2#16)] = .ok (i, rest) →
    (∀ k < i.length, isDevice (pc + BitVec.ofNat 16 k) = false) →
    step s = thenNext (exec i (u.setPc (pc + BitVec.ofNat 16 i.length))) (fun v => endTick (afterProductive v))) ∧
  (∀ s : State,
    let u := ppuClock s
    s.tick % 3 = 0 → s.dma.active = false → s.cpu.halted = false → s.cpu.cyc = 0 →
    ∃ i v, step s = thenNext (exec i v) (fun w => endTick (afterProductive w)) ∧
      i.opcode = (busRead u u.cpu.pc).1 ∧ v.cpu = { u.cpu with pc := u.cpu.pc + BitVec.ofNat 16 i.length } ∧
      SameMemory u v)

/-- Nothing stops: every instruction answers a next state from every state, and so do every step and every action of the
host (R13, R117, R477). -/
def Obligations.NothingStops : Prop :=
  (∀ (i : Instr) (s : State), ∃ t, exec i s = .next t) ∧ (∀ s : State, ∃ t, step s = .next t) ∧
    ∀ (s : State) (a : HostAction), ∃ t, hostAct s a = .next t

/-! ### Load, store, transfer -/

/-- LDA, LDX, LDY and LAX complete in every form: the operand is read once and goes to the register, Z and N describe it,
no other register or flag changes (R150, R151, R152, R256). -/
def Obligations.LoadInstructions : Prop :=
  ∀ (i : Instr) (s : State),
    (i.mnem = .LDA → CompletesReading i s fun m x c =>
      c = { s.cpu with a := m, p := c.p, cyc := i.baseCycles + bitNat x } ∧ ZnOf m c.p ∧
        FlagsKept [.Z, .N] s.cpu.p c.p) ∧
    (i.mnem = .LDX → CompletesReading i s fun m x c =>
      c = { s.cpu with x := m, p := c.p, cyc := i.baseCycles + bitNat x } ∧ ZnOf m c.p ∧
        FlagsKept [.Z, .N] s.cpu.p c.p) ∧
    (i.mnem = .LDY → CompletesReading i s fun m x c =>
      c = { s.cpu with y := m, p := c.p, cyc := i.baseCycles + bitNat x } ∧ ZnOf m c.p ∧
        FlagsKept [.Z, .N] s.cpu.p c.p) ∧
    (i.mnem = .LAX → CompletesReading i s fun m x c =>
      c = { s.cpu with a := m, x := m, p := c.p, cyc := i.baseCycles + bitNat x } ∧ ZnOf m c.p ∧
        FlagsKept [.Z, .N] s.cpu.p c.p)

/-- STA, STX, STY and SAX complete in every form: one store to the operand's address, which is not read; no register and
no flag changes, and an indexed form pays no crossing (R153, R154, R155, R255). -/
def Obligations.StoreInstructions : Prop :=
  ∀ (i : Instr) (s : State), s.Inv →
    (i.mnem = .STA → CompletesStoring i s s.cpu.a fun c => c = { s.cpu with cyc := i.baseCycles }) ∧
    (i.mnem = .STX → CompletesStoring i s s.cpu.x fun c => c = { s.cpu with cyc := i.baseCycles }) ∧
    (i.mnem = .STY → CompletesStoring i s s.cpu.y fun c => c = { s.cpu with cyc := i.baseCycles }) ∧
    (i.mnem = .SAX → CompletesStoring i s (s.cpu.a &&& s.cpu.x) fun c => c = { s.cpu with cyc := i.baseCycles })

/-- TAX, TAY, TXA, TYA, TSX, TXS, INX, INY, DEX and DEY complete on registers alone, in 2 cycles; TXS is the one of them
that leaves Z and N alone, and the steps wrap modulo 256 (R156 to R161, R181 to R184). -/
def Obligations.RegisterInstructions : Prop :=
  ∀ s : State,
    let zn := fun (v : Byte) (c : Cpu) => ZnOf v c.p ∧ FlagsKept [.Z, .N] s.cpu.p c.p
    CompletesOnRegisters .taxImp s (fun c => c = { s.cpu with x := s.cpu.a, p := c.p, cyc := 2 } ∧ zn s.cpu.a c) ∧
    CompletesOnRegisters .tayImp s (fun c => c = { s.cpu with y := s.cpu.a, p := c.p, cyc := 2 } ∧ zn s.cpu.a c) ∧
    CompletesOnRegisters .txaImp s (fun c => c = { s.cpu with a := s.cpu.x, p := c.p, cyc := 2 } ∧ zn s.cpu.x c) ∧
    CompletesOnRegisters .tyaImp s (fun c => c = { s.cpu with a := s.cpu.y, p := c.p, cyc := 2 } ∧ zn s.cpu.y c) ∧
    CompletesOnRegisters .tsxImp s (fun c => c = { s.cpu with x := s.cpu.sp, p := c.p, cyc := 2 } ∧ zn s.cpu.sp c) ∧
    CompletesOnRegisters .txsImp s (fun c => c = { s.cpu with sp := s.cpu.x, cyc := 2 }) ∧
    CompletesOnRegisters .inxImp s (fun c =>
      c.x.toNat = (s.cpu.x.toNat + 1) % 256 ∧ c = { s.cpu with x := c.x, p := c.p, cyc := 2 } ∧ zn c.x c) ∧
    CompletesOnRegisters .inyImp s (fun c =>
      c.y.toNat = (s.cpu.y.toNat + 1) % 256 ∧ c = { s.cpu with y := c.y, p := c.p, cyc := 2 } ∧ zn c.y c) ∧
    CompletesOnRegisters .dexImp s (fun c =>
      c.x.toNat = (s.cpu.x.toNat + 255) % 256 ∧ c = { s.cpu with x := c.x, p := c.p, cyc := 2 } ∧ zn c.x c) ∧
    CompletesOnRegisters .deyImp s (fun c =>
      c.y.toNat = (s.cpu.y.toNat + 255) % 256 ∧ c = { s.cpu with y := c.y, p := c.p, cyc := 2 } ∧ zn c.y c)

/-! ### Arithmetic and logic -/

/-- ADC and SBC complete in every form, opcode 0xEB among them: the exact sum or difference modulo 256 whatever `P.D` is,
C as carry or no borrow, V as signed overflow, Z and N from the result (R170, R171, R190, R263). -/
def Obligations.AddAndSubtract : Prop :=
  ∀ (i : Instr) (s : State),
    let carry := bitNat (getFlag s.cpu.p .C)
    (i.mnem = .ADC → CompletesReading i s fun m x c =>
      c = { s.cpu with a := c.a, p := c.p, cyc := i.baseCycles + bitNat x } ∧ AddedTo s.cpu.a m carry c.a c.p ∧
        FlagsKept [.C, .Z, .V, .N] s.cpu.p c.p) ∧
    (i.mnem = .SBC → CompletesReading i s fun m x c =>
      c = { s.cpu with a := c.a, p := c.p, cyc := i.baseCycles + bitNat x } ∧
        SubtractedFrom s.cpu.a m (1 - carry) c.a c.p ∧ FlagsKept [.C, .Z, .V, .N] s.cpu.p c.p)

/-- AND, ORA and EOR complete in every form: the bitwise result in `A`, Z and N from it, no other flag (R172, R173,
R174). -/
def Obligations.LogicInstructions : Prop :=
  ∀ (i : Instr) (s : State),
    (i.mnem = .AND → CompletesReading i s fun m x c =>
      c = { s.cpu with a := s.cpu.a &&& m, p := c.p, cyc := i.baseCycles + bitNat x } ∧ ZnOf (s.cpu.a &&& m) c.p ∧
        FlagsKept [.Z, .N] s.cpu.p c.p) ∧
    (i.mnem = .ORA → CompletesReading i s fun m x c =>
      c = { s.cpu with a := s.cpu.a ||| m, p := c.p, cyc := i.baseCycles + bitNat x } ∧ ZnOf (s.cpu.a ||| m) c.p ∧
        FlagsKept [.Z, .N] s.cpu.p c.p) ∧
    (i.mnem = .EOR → CompletesReading i s fun m x c =>
      c = { s.cpu with a := s.cpu.a ^^^ m, p := c.p, cyc := i.baseCycles + bitNat x } ∧ ZnOf (s.cpu.a ^^^ m) c.p ∧
        FlagsKept [.Z, .N] s.cpu.p c.p)

/-- CMP, CPX, CPY and BIT complete in every form: flags alone change; BIT takes N and V from the operand, not from the AND
(R175 to R178). -/
def Obligations.CompareAndBitTest : Prop :=
  ∀ (i : Instr) (s : State),
    (i.mnem = .CMP → CompletesReading i s fun m x c =>
      c = { s.cpu with p := c.p, cyc := i.baseCycles + bitNat x } ∧ Compared s.cpu.a m c.p ∧
        FlagsKept [.C, .Z, .N] s.cpu.p c.p) ∧
    (i.mnem = .CPX → CompletesReading i s fun m _ c =>
      c = { s.cpu with p := c.p, cyc := i.baseCycles } ∧ Compared s.cpu.x m c.p ∧ FlagsKept [.C, .Z, .N] s.cpu.p c.p) ∧
    (i.mnem = .CPY → CompletesReading i s fun m _ c =>
      c = { s.cpu with p := c.p, cyc := i.baseCycles } ∧ Compared s.cpu.y m c.p ∧ FlagsKept [.C, .Z, .N] s.cpu.p c.p) ∧
    (i.mnem = .BIT → CompletesReading i s fun m _ c =>
      c = { s.cpu with p := c.p, cyc := i.baseCycles } ∧ (getFlag c.p .Z = true ↔ s.cpu.a &&& m = 0#8) ∧
        getFlag c.p .N = m.getLsbD 7 ∧ getFlag c.p .V = m.getLsbD 6 ∧ FlagsKept [.Z, .V, .N] s.cpu.p c.p)

/-- INC and DEC complete in every form: one read and one write of the operand, wrapping modulo 256; Z and N from the byte
written, neither C nor V (R76, R179, R180). -/
def Obligations.MemoryIncrements : Prop :=
  ∀ (i : Instr) (s : State), s.Inv →
    (i.mnem = .INC → CompletesModifying i s (fun m => BitVec.ofNat 8 (m.toNat + 1)) fun m c =>
      c = { s.cpu with p := c.p, cyc := i.baseCycles } ∧ ZnOf (BitVec.ofNat 8 (m.toNat + 1)) c.p ∧
        FlagsKept [.Z, .N] s.cpu.p c.p) ∧
    (i.mnem = .DEC → CompletesModifying i s (fun m => BitVec.ofNat 8 (m.toNat + 255)) fun m c =>
      c = { s.cpu with p := c.p, cyc := i.baseCycles } ∧ ZnOf (BitVec.ofNat 8 (m.toNat + 255)) c.p ∧
        FlagsKept [.Z, .N] s.cpu.p c.p)

/-- ASL, LSR, ROL and ROR complete in every form, on `A` or on one byte of memory: by one position, C the bit shifted out,
the rotates through the carry, Z and N from the result (R200 to R204). -/
def Obligations.ShiftsAndRotates : Prop :=
  ∀ (i : Instr) (s : State), s.Inv →
    let carry := bitNat (getFlag s.cpu.p .C)
    (i.mnem = .ASL → CompletesShifting i s (fun m => BitVec.ofNat 8 (2 * m.toNat)) fun m => decide (128 ≤ m.toNat)) ∧
    (i.mnem = .LSR → CompletesShifting i s (fun m => BitVec.ofNat 8 (m.toNat / 2)) fun m => decide (m.toNat % 2 = 1)) ∧
    (i.mnem = .ROL → CompletesShifting i s (fun m => BitVec.ofNat 8 (2 * m.toNat + carry)) fun m =>
      decide (128 ≤ m.toNat)) ∧
    (i.mnem = .ROR → CompletesShifting i s (fun m => BitVec.ofNat 8 (m.toNat / 2 + 128 * carry)) fun m =>
      decide (m.toNat % 2 = 1))

/-- `AddWithCarry(m)` and `Compare(r, m)` in the spec's own terms (R191, R192). The wide sum `t` of `A`, `m` and C: C is the
carry out; V is set exactly when both addends have the same sign bit and the result another, in both spellings; `A` takes
the low byte; Z and N come from it. The comparison: C is the unsigned comparison, Z equality, N bit 7 of the 8-bit
difference; V and every register stay; the rule's two examples. -/
def Obligations.AddAndCompareFormulas : Prop :=
  (∀ (s : State) (m : Byte),
    let t := s.cpu.a.toNat + m.toNat + bitNat (getFlag s.cpu.p .C)
    let r := BitVec.ofNat 8 t
    let q := (addWithCarry s m).cpu
    addWithCarry s m = { s with cpu := { s.cpu with a := r, p := q.p } } ∧ getFlag q.p .C = decide (0xFF < t) ∧
      (getFlag q.p .V = true ↔
        s.cpu.a.getLsbD 7 = m.getLsbD 7 ∧ r.getLsbD 7 ≠ s.cpu.a.getLsbD 7) ∧
      getFlag q.p .V = decide (~~~(s.cpu.a ^^^ m) &&& (s.cpu.a ^^^ r) &&& 0x80#8 ≠ 0#8) ∧
      getFlag q.p .V = decide ((s.cpu.a ^^^ r) &&& (m ^^^ r) &&& 0x80#8 ≠ 0#8) ∧
      ZnOf r q.p ∧ FlagsKept [.C, .Z, .V, .N] s.cpu.p q.p) ∧
  (∀ (s : State) (r m : Byte),
    let q := (compareWith s r m).cpu.p
    compareWith s r m = { s with cpu := { s.cpu with p := q } } ∧ getFlag q .C = decide (m.toNat ≤ r.toNat) ∧
      getFlag q .Z = decide (r = m) ∧ getFlag q .N = (BitVec.ofNat 8 ((r.toNat + 256 - m.toNat) % 256)).getLsbD 7 ∧
      FlagsKept [.C, .Z, .N] s.cpu.p q) ∧
  (∀ s : State,
    getFlag (compareWith s 0x00#8 0x80#8).cpu.p .N = true ∧ getFlag (compareWith s 0x00#8 0x80#8).cpu.p .C = false ∧
    getFlag (compareWith s 0x80#8 0x00#8).cpu.p .N = true ∧ getFlag (compareWith s 0x80#8 0x00#8).cpu.p .C = true)

/-! ### Control transfer, stack, flags -/

/-- JMP, JSR and RTS complete (R142, R210, R211, R212): JMP absolute and indirect with the pointer's high byte from the same
page, JSR pushing the address of its own last byte, RTS adding one to the word it pulls. -/
def Obligations.JumpsAndSubroutines : Prop :=
  (∀ (a : Addr) (s : State), CompletesOnRegisters (.jmpAbs a) s fun c => c = { s.cpu with pc := a, cyc := 3 }) ∧
  (∀ (a : Addr) (s : State),
    let l := busRead s a
    let h := busRead l.2 (cat (hi a) (BitVec.ofNat 8 (a.toNat % 256 + 1)))
    ∃ t, exec (.jmpInd a) s = .next t ∧ t.cpu = { s.cpu with pc := cat h.1 l.1, cyc := 5 } ∧ SameOutsideCpu h.2 t ∧
      SameMemory s t) ∧
  (∀ (a : Addr) (s : State), s.Inv →
    let ret := s.cpu.pc - 1#16
    ∃ t, exec (.jsrAbs a) s = .next t ∧
      Pushed s t [(stackCell s.cpu.sp, hi ret), (stackCell (s.cpu.sp - 1#8), lo ret)] ∧
      t.cpu = { s.cpu with sp := s.cpu.sp - 2#8, pc := a, cyc := 6 }) ∧
  (∀ s : State, CompletesOnRegisters .rtsImp s fun c =>
    c = { s.cpu with
      sp := s.cpu.sp + 2#8
      pc := cat (s.ram.read (stackCell (s.cpu.sp + 2#8))) (s.ram.read (stackCell (s.cpu.sp + 1#8))) + 1#16
      cyc := 6 })

/-- The eight branches complete on registers alone: taken, to the address `d` bytes after the next instruction, in 3 cycles
or in 4 where that is another page than the next instruction's; not taken, in 2; no flag changes (R139, R215 to R223). -/
def Obligations.Branches : Prop :=
  ∀ (i : Instr) (d : Byte) (s : State), i.operand = .rel d →
    CompletesOnRegisters i s fun c =>
      let target := BitVec.ofInt 16 (s.cpu.pc.toNat + d.toInt)
      c = if branchCondition i.mnem s.cpu.p then
            { s.cpu with pc := target, cyc := if hi target = hi s.cpu.pc then 3 else 4 }
          else { s.cpu with cyc := 2 }

/-- BRK takes its exception (R214, R476, R480): the address after the padding byte and the status with B and U set are
pushed, I is set, `PC` comes from 0xFFFE. RTI completes (R213, R481): the status with bit 5 forced to 1 and bit 4 to 0,
then the `PC` unadjusted. Clauses on B rest on decisions D2 and D7 of the spec. -/
def Obligations.BreakAndReturn : Prop :=
  (∀ s : State, s.Inv →
    ∃ t, exec .brkImp s = .next t ∧ Entered s t (s.cpu.pc + 1#16) (s.cpu.p ||| 0x30#8) 0xFFFE#16 7) ∧
  (∀ s : State, CompletesOnRegisters .rtiImp s fun c =>
    c = { s.cpu with
      sp := s.cpu.sp + 3#8
      p := (s.ram.read (stackCell (s.cpu.sp + 1#8)) &&& 0xCF#8) ||| 0x20#8
      pc := cat (s.ram.read (stackCell (s.cpu.sp + 3#8))) (s.ram.read (stackCell (s.cpu.sp + 2#8)))
      cyc := 6 })

/-- PHA, PHP, PLA and PLP complete for every `S`, wrapping inside page 1: PHP pushes B and U set, PLP keeps B clear and U
set (R23, R230 to R233; the B clauses rest on decision D2 of the spec). -/
def Obligations.StackInstructions : Prop :=
  ∀ s : State, s.Inv →
    let top := s.ram.read (stackCell (s.cpu.sp + 1#8))
    (∃ t, exec .phaImp s = .next t ∧ Pushed s t [(stackCell s.cpu.sp, s.cpu.a)] ∧
      t.cpu = { s.cpu with sp := s.cpu.sp - 1#8, cyc := 3 }) ∧
    (∃ t, exec .phpImp s = .next t ∧ Pushed s t [(stackCell s.cpu.sp, s.cpu.p ||| 0x30#8)] ∧
      t.cpu = { s.cpu with sp := s.cpu.sp - 1#8, cyc := 3 }) ∧
    CompletesOnRegisters .plaImp s (fun c =>
      c = { s.cpu with a := top, sp := s.cpu.sp + 1#8, p := c.p, cyc := 4 } ∧ ZnOf top c.p ∧
        FlagsKept [.Z, .N] s.cpu.p c.p) ∧
    CompletesOnRegisters .plpImp s (fun c =>
      c = { s.cpu with sp := s.cpu.sp + 1#8, p := (top &&& 0xCF#8) ||| 0x20#8, cyc := 4 })

/-- The seven flag instructions complete in 2 cycles and change one bit of `P` each (R234 to R240); NOP completes in every
form and writes no register, flag or memory (R241, R264). That an undocumented NOP with an operand in memory reads it, with
the read's side effects, is R264's decision D5 of the spec. -/
def Obligations.FlagInstructionsAndNop : Prop :=
  ∀ (i : Instr) (s : State),
    let puts := fun (f : Flag) (b : Bool) => CompletesOnRegisters i s fun c =>
      c = { s.cpu with p := c.p, cyc := 2 } ∧ getFlag c.p f = b ∧ FlagsKept [f] s.cpu.p c.p
    (i.mnem = .CLC → puts .C false) ∧ (i.mnem = .SEC → puts .C true) ∧
    (i.mnem = .CLI → puts .I false) ∧ (i.mnem = .SEI → puts .I true) ∧
    (i.mnem = .CLV → puts .V false) ∧ (i.mnem = .CLD → puts .D false) ∧ (i.mnem = .SED → puts .D true) ∧
    (i.mnem = .NOP → CompletesReading i s fun _ x c => c = { s.cpu with cyc := i.baseCycles + bitNat x })

/-! ### The undocumented instructions -/

/-- SLO, RLA, SRE, RRA, DCP and ISC complete in every form: one read and one write of the operand, then the byte written is
combined with `A` as ORA, AND, EOR, ADC, CMP and SBC do (R251 to R254, R257, R258). -/
def Obligations.CombinedModifyInstructions : Prop :=
  ∀ (i : Instr) (s : State), s.Inv →
    let carry := bitNat (getFlag s.cpu.p .C)
    let twice := fun (m : Byte) => BitVec.ofNat 8 (2 * m.toNat)
    let rol := fun (m : Byte) => BitVec.ofNat 8 (2 * m.toNat + carry)
    let half := fun (m : Byte) => BitVec.ofNat 8 (m.toNat / 2)
    let ror := fun (m : Byte) => BitVec.ofNat 8 (m.toNat / 2 + 128 * carry)
    let less := fun (m : Byte) => BitVec.ofNat 8 (m.toNat + 255)
    let more := fun (m : Byte) => BitVec.ofNat 8 (m.toNat + 1)
    (i.mnem = .SLO → CompletesModifying i s twice fun m c =>
      c = { s.cpu with a := s.cpu.a ||| twice m, p := c.p, cyc := i.baseCycles } ∧ ZnOf (s.cpu.a ||| twice m) c.p ∧
        getFlag c.p .C = m.getLsbD 7 ∧ FlagsKept [.C, .Z, .N] s.cpu.p c.p) ∧
    (i.mnem = .RLA → CompletesModifying i s rol fun m c =>
      c = { s.cpu with a := s.cpu.a &&& rol m, p := c.p, cyc := i.baseCycles } ∧ ZnOf (s.cpu.a &&& rol m) c.p ∧
        getFlag c.p .C = m.getLsbD 7 ∧ FlagsKept [.C, .Z, .N] s.cpu.p c.p) ∧
    (i.mnem = .SRE → CompletesModifying i s half fun m c =>
      c = { s.cpu with a := s.cpu.a ^^^ half m, p := c.p, cyc := i.baseCycles } ∧ ZnOf (s.cpu.a ^^^ half m) c.p ∧
        getFlag c.p .C = m.getLsbD 0 ∧ FlagsKept [.C, .Z, .N] s.cpu.p c.p) ∧
    (i.mnem = .RRA → CompletesModifying i s ror fun m c =>
      c = { s.cpu with a := c.a, p := c.p, cyc := i.baseCycles } ∧
        AddedTo s.cpu.a (ror m) (m.toNat % 2) c.a c.p ∧ FlagsKept [.C, .Z, .V, .N] s.cpu.p c.p) ∧
    (i.mnem = .DCP → CompletesModifying i s less fun m c =>
      c = { s.cpu with p := c.p, cyc := i.baseCycles } ∧ Compared s.cpu.a (less m) c.p ∧
        FlagsKept [.C, .Z, .N] s.cpu.p c.p) ∧
    (i.mnem = .ISC → CompletesModifying i s more fun m c =>
      c = { s.cpu with a := c.a, p := c.p, cyc := i.baseCycles } ∧
        SubtractedFrom s.cpu.a (more m) (1 - carry) c.a c.p ∧ FlagsKept [.C, .Z, .V, .N] s.cpu.p c.p)

/-- LAS in its indexed form and the immediate combinations ANC, ALR, ARR, AXS, XAA and LXA complete, with the flags each
rule names (R259 to R262, R265 to R267). The magic bytes of XAA and LXA are open parameters: the statement holds for
every value of them (decision D15 of the spec, log 7). -/
def Obligations.RegisterCombinations : Prop :=
  ∀ (i : Instr) (s : State),
    let carry := bitNat (getFlag s.cpu.p .C)
    (i.mnem = .LAS → CompletesReading i s fun m x c =>
      c = { s.cpu with a := m &&& s.cpu.sp, x := m &&& s.cpu.sp, sp := m &&& s.cpu.sp, p := c.p,
                       cyc := i.baseCycles + bitNat x } ∧
        ZnOf (m &&& s.cpu.sp) c.p ∧ FlagsKept [.Z, .N] s.cpu.p c.p) ∧
    (i.mnem = .ANC → CompletesReading i s fun m _ c =>
      c = { s.cpu with a := s.cpu.a &&& m, p := c.p, cyc := 2 } ∧ ZnOf (s.cpu.a &&& m) c.p ∧
        getFlag c.p .C = (s.cpu.a &&& m).getLsbD 7 ∧ FlagsKept [.C, .Z, .N] s.cpu.p c.p) ∧
    (i.mnem = .ALR → CompletesReading i s fun m _ c =>
      c = { s.cpu with a := BitVec.ofNat 8 ((s.cpu.a &&& m).toNat / 2), p := c.p, cyc := 2 } ∧ ZnOf c.a c.p ∧
        getFlag c.p .C = (s.cpu.a &&& m).getLsbD 0 ∧ FlagsKept [.C, .Z, .N] s.cpu.p c.p) ∧
    (i.mnem = .ARR → CompletesReading i s fun m _ c =>
      c = { s.cpu with a := BitVec.ofNat 8 ((s.cpu.a &&& m).toNat / 2 + 128 * carry), p := c.p, cyc := 2 } ∧
        ZnOf c.a c.p ∧ getFlag c.p .C = c.a.getLsbD 6 ∧ getFlag c.p .V = (c.a.getLsbD 6 ^^ c.a.getLsbD 5) ∧
        FlagsKept [.C, .Z, .V, .N] s.cpu.p c.p) ∧
    (i.mnem = .AXS → CompletesReading i s fun m _ c =>
      c = { s.cpu with x := c.x, p := c.p, cyc := 2 } ∧
        c.x.toNat = ((s.cpu.a &&& s.cpu.x).toNat + 256 - m.toNat) % 256 ∧ ZnOf c.x c.p ∧
        (getFlag c.p .C = true ↔ m.toNat ≤ (s.cpu.a &&& s.cpu.x).toNat) ∧ FlagsKept [.C, .Z, .N] s.cpu.p c.p) ∧
    (i.mnem = .XAA → CompletesReading i s fun m _ c =>
      c = { s.cpu with a := (s.cpu.a ||| Config.aneMagic) &&& s.cpu.x &&& m, p := c.p, cyc := 2 } ∧ ZnOf c.a c.p ∧
        FlagsKept [.Z, .N] s.cpu.p c.p) ∧
    (i.mnem = .LXA → CompletesReading i s fun m _ c =>
      c = { s.cpu with a := (s.cpu.a ||| Config.lxaMagic) &&& m, x := (s.cpu.a ||| Config.lxaMagic) &&& m, p := c.p,
                       cyc := 2 } ∧
        ZnOf c.a c.p ∧ FlagsKept [.Z, .N] s.cpu.p c.p)

/-- AHX, SHY, SHX and TAS complete in every form with one store, of the register ANDed with the unindexed address's high
byte plus one, which also becomes the high byte of the address where the index crosses a page; TAS sets `S` first; no flag
changes (R268 to R272; decision D15 of the spec). -/
def Obligations.UnstableStores : Prop :=
  ∀ (i : Instr) (s : State), s.Inv →
    let r := (operandAt i s).1
    let stores := fun (reg : Byte) (c : Cpu) => ∃ t, exec i s = .next t ∧
      Stored s t (if r.crossed then cat (reg &&& (r.baseHi + 1#8)) (lo r.ea) else r.ea) (reg &&& (r.baseHi + 1#8)) ∧
      t.cpu = c
    (i.mnem = .AHX → stores (s.cpu.a &&& s.cpu.x) { s.cpu with cyc := i.baseCycles }) ∧
    (i.mnem = .SHY → stores s.cpu.y { s.cpu with cyc := i.baseCycles }) ∧
    (i.mnem = .SHX → stores s.cpu.x { s.cpu with cyc := i.baseCycles }) ∧
    (i.mnem = .TAS → stores (s.cpu.a &&& s.cpu.x) { s.cpu with sp := s.cpu.a &&& s.cpu.x, cyc := i.baseCycles })

/-- The halt (R30, R280, R475): a halt opcode sets `cpu.halted`; while it is set, `clock()` changes nothing, and `reset()`
clears it. That `PC` stays past the opcode and that `nmi()` and `irq()` change nothing either is decision D8 of the spec;
the operation leaves the table's count 2, which is never consumed (R280, decision D16). That no action of the host but
reset changes a halted CPU rests on R410's list of actions as the model has it (log 15). -/
def Obligations.HaltStopsTheCpu : Prop :=
  (∀ (i : Instr) (s : State), i.mnem = .KIL →
    CompletesOnRegisters i s fun c => c = { s.cpu with halted := true, cyc := 2 }) ∧
  (∀ s : State, s.cpu.halted = true → cpuClock s = .next s ∧ cpuNmi s = s ∧ cpuIrq s = s) ∧
  (∀ (s t : State) (a : HostAction), s.cpu.halted = true → a ≠ .reset → hostAct s a = .next t → t.cpu = s.cpu) ∧
  (∀ s : State, (busReset s).cpu.halted = false) ∧ State.reset.cpu.halted = false

/-! ### Addressing -/

/-- The place of the operand in each addressing mode, in integer arithmetic (R134 to R145): indexed zero-page addresses and
zero-page pointers wrap inside page 0, every other sum modulo 2^16. Resolving an operand writes no register and no memory,
and in every mode but IND it changes nothing at all (R147; no pointer of another mode can lie at a device port). -/
def Obligations.EffectiveAddresses : Prop :=
  (∀ (s : State) (d : Byte) (a : Addr),
    let x := s.cpu.x.toNat
    let y := s.cpu.y.toNat
    let p := (d.toNat + x) % 256
    let base := cat (s.ram.read ((d.toNat + 1) % 256)) (s.ram.read d.toNat)
    (resolve s .imp).1.loc = .none ∧
    (resolve s (.imm d)).1.loc = .value d ∧
    (resolve s (.zp0 d)).1.loc = .mem (BitVec.ofNat 16 d.toNat) ∧
    (resolve s (.zpx d)).1.loc = .mem (BitVec.ofNat 16 ((d.toNat + x) % 256)) ∧
    (resolve s (.zpy d)).1.loc = .mem (BitVec.ofNat 16 ((d.toNat + y) % 256)) ∧
    (resolve s (.rel d)).1.loc = .mem (BitVec.ofInt 16 (s.cpu.pc.toNat + d.toInt)) ∧
    (resolve s (.izx d)).1.loc = .mem (cat (s.ram.read ((p + 1) % 256)) (s.ram.read p)) ∧
    (resolve s (.izy d)).1.loc = .mem (BitVec.ofNat 16 (base.toNat + y)) ∧ (resolve s (.izy d)).1.baseHi = hi base ∧
    (resolve s (.abs a)).1.loc = .mem a ∧
    (resolve s (.abx a)).1.loc = .mem (BitVec.ofNat 16 (a.toNat + x)) ∧ (resolve s (.abx a)).1.baseHi = hi a ∧
    (resolve s (.aby a)).1.loc = .mem (BitVec.ofNat 16 (a.toNat + y)) ∧ (resolve s (.aby a)).1.baseHi = hi a ∧
    (let l := busRead s a
     let h := busRead l.2 (cat (hi a) (BitVec.ofNat 8 (a.toNat % 256 + 1)))
     resolve s (.ind a) = (⟨.mem (cat h.1 l.1), false, (resolve s (.ind a)).1.baseHi⟩, h.2))) ∧
  (∀ (s : State) (o : Operand),
    (o.mode ≠ .IND → (resolve s o).2 = s) ∧ (resolve s o).2.cpu = s.cpu ∧ SameMemory s (resolve s o).2)

/-- Page crossing (R146): `crossed` is 1 exactly in modes ABX, ABY and IZY when the high byte of the computed address is not
that of the base, which is the same as the base's low byte plus the index exceeding 0xFF; it is 0 in every other mode. -/
def Obligations.PageCrossing : Prop :=
  (∀ (s : State) (o : Operand), o.mode ∉ [Mode.ABX, Mode.ABY, Mode.IZY] → (resolve s o).1.crossed = false) ∧
  (∀ (s : State) (a : Addr) (d : Byte),
    let pointer := cat (s.ram.read ((d.toNat + 1) % 256)) (s.ram.read d.toNat)
    let agrees := fun (r : Resolved) (base : Addr) (index : Byte) =>
      (r.crossed = true ↔ hi r.ea ≠ hi base) ∧ (r.crossed = true ↔ 0xFF < (lo base).toNat + index.toNat)
    agrees (resolve s (.abx a)).1 a s.cpu.x ∧ agrees (resolve s (.aby a)).1 a s.cpu.y ∧
      agrees (resolve s (.izy d)).1 pointer s.cpu.y)

/-- The cycles an instruction costs (R133, R148, R215): its row's base count, one more where the index crosses a page and
the operation may need it, one or two more for a taken branch. -/
def Obligations.TotalCycles : Prop :=
  ∀ (i : Instr) (s : State), ∃ t, exec i s = .next t ∧
    let r := (operandAt i s).1
    (i.mode ≠ .REL → t.cpu.cyc = i.baseCycles + bitNat (r.crossed && mayNeedExtraCycle i.mnem)) ∧
    (i.mode = .REL → t.cpu.cyc = i.baseCycles +
      if branchCondition i.mnem s.cpu.p then (if hi r.ea = hi s.cpu.pc then 1 else 2) else 0)


/-! ### The Bus -/

/-- Console RAM (R83): below 0x2000 an access reads or writes cell `a & 0x07FF` and nothing else; the four images are the
same 2048 cells; the zero page and the stack page are cells 0x000 to 0x0FF and 0x100 to 0x1FF. -/
def Obligations.ConsoleRamImages : Prop :=
  (∀ (s : State) (a : Addr) (v : Byte), a.toNat ≤ 0x1FFF →
    busRead s a = (s.ram.read (a.toNat % 0x800), s) ∧
      busWrite s a v = { s with ram := s.ram.write (a.toNat % 0x800) v } ∧
      (s.Inv → ∀ b : Addr, b.toNat ≤ 0x1FFF →
        (busRead (busWrite s a v) b).1 = if b.toNat % 0x800 = a.toNat % 0x800 then v else (busRead s b).1)) ∧
  (∀ (s : State) (d : Byte), busRead s (zext d) = (s.ram.read d.toNat, s) ∧
    busRead s (stackAddr d) = (s.ram.read (0x100 + d.toNat), s))

/-- The side-effect-free read returns what `BusRead` would return at every address, and at each port the byte that R88
lists (decision D33 of the spec; log 12). -/
def Obligations.PeekAgreesWithRead : Prop :=
  (∀ (s : State) (a : Addr), busPeek s a = (busRead s a).1) ∧
  (∀ (s : State) (a : Addr), 0x2000 ≤ a.toNat → a.toNat ≤ 0x3FFF →
    (a.toNat % 8 = 2 → busPeek s a = s.ppu.statBits ||| (s.ppu.rdbuf &&& 0x1F#8)) ∧
    (a.toNat % 8 = 4 → busPeek s a = s.ppu.oam.read s.ppu.oamaddr.toNat) ∧
    (a.toNat % 8 = 7 → busPeek s a =
      if 0x3F00 ≤ s.ppu.v.toNat % 0x4000 then ppuPeek s (BitVec.ofNat 14 s.ppu.v.toNat) else s.ppu.rdbuf) ∧
    (a.toNat % 8 ∉ [2, 4, 7] → busPeek s a = 0#8)) ∧
  (∀ s : State, busPeek s 0x4016#16 = s.ctlShift0 >>> 7 ∧ busPeek s 0x4017#16 = s.ctlShift1 >>> 7)

/-- Reads outside the device ports change nothing, and no read changes a register of the CPU or a byte of memory (R77);
0x2000 to 0x3FFF are the eight PPU ports over and over (R84); unmapped addresses read 0x00 and ignore writes (R85, decision
D12 of the spec); a write to 0x4014 arms the DMA engine (R86). -/
def Obligations.AddressMapOutsideMemory : Prop :=
  (∀ (s : State) (a : Addr), (isDevice a = false → (busRead s a).2 = s) ∧ (busRead s a).2.cpu = s.cpu ∧
    SameMemory s (busRead s a).2) ∧
  (∀ (s : State) (a : Addr) (v : Byte), 0x2000 ≤ a.toNat → a.toNat ≤ 0x3FFF →
    busRead s a = ppuPortRead s (a.toNat % 8) ∧ busWrite s a v = ppuPortWrite s (a.toNat % 8) v) ∧
  (∀ (s : State) (a : Addr) (v : Byte), 0x4000 ≤ a.toNat → a.toNat < 0x8000 →
    (0x6000 ≤ a.toNat → s.mapper.hasRam = false) → a ≠ 0x4016#16 → a ≠ 0x4017#16 →
    busRead s a = (0#8, s) ∧ (a ≠ 0x4014#16 → busWrite s a v = s)) ∧
  (∀ (s : State) (v : Byte),
    busWrite s 0x4014#16 v = { s with dma := { s.dma with page := v, off := 0#8, active := true } })

/-- The cartridge's obligations on the CPU side, of every variant (R421): it declines below 0x6000; from 0x8000 on a read
is mapped and a write is handled, whether it hits a register or is discarded; 0x6000 to 0x7FFF is its RAM where the variant
has RAM (id 2 by decision D37 of the spec) and declined otherwise; the query of `BusPeek` gives what the read gives and
neither changes anything. That every mapped offset lies inside PRG ROM is decision D36 of the spec (R423) and, for id 9 with
one PRG bank, the model's (log 9). -/
def Obligations.CartridgeCpuContract : Prop :=
  ∀ (s : State) (a : Addr) (d : Byte), 1 ≤ s.cart.prgBanks →
    (a.toNat < 0x6000 → s.mapper.cpuMapRead s.cart s.mapperRam a = .declined ∧ cartCpuWrite s a d = none) ∧
    (0x8000 ≤ a.toNat →
      (∃ o, s.mapper.cpuMapRead s.cart s.mapperRam a = .mapped o ∧ o < 16384 * s.cart.prgBanks) ∧
        ∃ m, cartCpuWrite s a d = some { s with mapper := m }) ∧
    (0x6000 ≤ a.toNat → a.toNat < 0x8000 → s.mapper.hasRam = true →
      s.mapper.cpuMapRead s.cart s.mapperRam a = .direct (s.mapperRam.read (a.toNat % 0x2000)) ∧
        cartCpuWrite s a d = some { s with mapperRam := s.mapperRam.write (a.toNat % 0x2000) d }) ∧
    (0x6000 ≤ a.toNat → a.toNat < 0x8000 → s.mapper.hasRam = false →
      s.mapper.cpuMapRead s.cart s.mapperRam a = .declined ∧ cartCpuWrite s a d = none) ∧
    (∀ v, cartCpuRead s a = some v → busRead s a = (v, s) ∧ busPeek s a = v)

/-- A write to a controller port copies the host's byte whatever the data; the reads after it return its bits from bit 7
down and then 0, and touch nothing but that port's shifter (R400, R401; decision D13 of the spec). -/
def Obligations.ControllerPorts : Prop :=
  ∀ (s : State) (v : Byte) (n : Nat),
    let read := fun (port : Addr) (u : State) => (busRead u port).2
    let bit := fun (c : Byte) => if n < 8 ∧ c.getLsbD (7 - n) = true then 1#8 else 0#8
    (busRead ((read 0x4016#16)^[n] (busWrite s 0x4016#16 v)) 0x4016#16).1 = bit s.ctlIn0 ∧
      (read 0x4016#16)^[n] (busWrite s 0x4016#16 v) = { s with ctlShift0 := s.ctlIn0 <<< n } ∧
    (busRead ((read 0x4017#16)^[n] (busWrite s 0x4017#16 v)) 0x4017#16).1 = bit s.ctlIn1 ∧
      (read 0x4017#16)^[n] (busWrite s 0x4017#16 v) = { s with ctlShift1 := s.ctlIn1 <<< n }

/-! ### The PPU's ports and memories -/

/-- Ports 0 to 4 (R301, R303, R304, R305, R310, R311; decisions D12, D18 and D19 of the spec). Port 2: the three flags over
the low five bits of the read buffer; vertical-blank and the toggle are cleared and nothing else changes, the latched NMI
request among it; writes are ignored. Control with the nametable bits of `t`, Mask, the OAM address; OAM data, whose address
goes up by one modulo 256 both ways; the write-only ports read 0x00. -/
def Obligations.RegisterPorts : Prop :=
  ∀ (s : State) (d : Byte),
    ((ppuPortRead s 2).1.toNat = 128 * bitNat s.ppu.vblank + 64 * bitNat s.ppu.spriteZeroHit +
        32 * bitNat s.ppu.spriteOverflow + s.ppu.rdbuf.toNat % 32 ∧
      (ppuPortRead s 2).2 = { s with ppu := { s.ppu with vblank := false, w := false } } ∧ ppuPortWrite s 2 d = s) ∧
    (let t := (ppuPortWrite s 0 d).ppu.t
     ppuPortWrite s 0 d = { s with ppu := { s.ppu with ctrl := d, t := t } } ∧
      t.getLsbD 10 = d.getLsbD 0 ∧ t.getLsbD 11 = d.getLsbD 1 ∧
      ∀ k, k ≠ 10 → k ≠ 11 → t.getLsbD k = s.ppu.t.getLsbD k) ∧
    ppuPortWrite s 1 d = { s with ppu := { s.ppu with mask := d } } ∧
    ppuPortWrite s 3 d = { s with ppu := { s.ppu with oamaddr := d } } ∧
    (let next := BitVec.ofNat 8 (s.ppu.oamaddr.toNat + 1)
     ppuPortRead s 4 = (s.ppu.oam.read s.ppu.oamaddr.toNat, { s with ppu := { s.ppu with oamaddr := next } }) ∧
      ppuPortWrite s 4 d =
        { s with ppu := { s.ppu with oam := s.ppu.oam.write s.ppu.oamaddr.toNat d, oamaddr := next } }) ∧
    (∀ n ∈ [0, 1, 3, 5, 6], ppuPortRead s n = (0#8, s))

/-- Ports 5 and 6 (R306, R307): the shared toggle says which half a write is, and each write inverts it. Port 5: fine X and
coarse X, then fine Y and coarse Y, of `t` and `fx` only. Port 6: the high six bits of `t` with bit 14 cleared, then its low
byte and the copy to `v`. -/
def Obligations.ScrollAndAddressPorts : Prop :=
  ∀ (s : State) (d : Byte),
    (let q := (ppuPortWrite s 5 d).ppu
     ppuPortWrite s 5 d = { s with ppu := { s.ppu with fx := q.fx, t := q.t, w := !s.ppu.w } } ∧
      nametableX q.t = nametableX s.ppu.t ∧ nametableY q.t = nametableY s.ppu.t ∧
      (s.ppu.w = false → q.fx.toNat = d.toNat % 8 ∧ (coarseX q.t).toNat = d.toNat / 8 ∧ coarseY q.t = coarseY s.ppu.t ∧
        fineY q.t = fineY s.ppu.t) ∧
      (s.ppu.w = true → q.fx = s.ppu.fx ∧ coarseX q.t = coarseX s.ppu.t ∧ (coarseY q.t).toNat = d.toNat / 8 ∧
        (fineY q.t).toNat = d.toNat % 8)) ∧
    (let q := (ppuPortWrite s 6 d).ppu
     ppuPortWrite s 6 d = { s with ppu := { s.ppu with t := q.t, v := q.v, w := !s.ppu.w } } ∧
      (s.ppu.w = false → q.t.toNat = d.toNat % 64 * 256 + s.ppu.t.toNat % 256 ∧ q.v = s.ppu.v) ∧
      (s.ppu.w = true → q.t.toNat = s.ppu.t.toNat / 256 * 256 + d.toNat ∧ q.v = q.t))

/-- Port 7 (R308, R309): reads are one access behind, but for the palette; the buffer takes the byte read; a write goes
through; either way `v` goes up by 1 or 32 modulo 2^15 and no other PPU register changes (decision D30 of the spec). -/
def Obligations.DataPort : Prop :=
  ∀ (s : State) (d : Byte),
    let a : PpuAddr := BitVec.ofNat 14 s.ppu.v.toNat
    let next : Loopy := BitVec.ofNat 15 (s.ppu.v.toNat + if s.ppu.ctrl.getLsbD 2 then 32 else 1)
    (ppuPortRead s 7).1 = (if 0x3F00 ≤ a.toNat then ppuPeek s a else s.ppu.rdbuf) ∧
    (ppuPortRead s 7).2 = { s with
      ppu := { s.ppu with rdbuf := ppuPeek s a, v := next }
      mapper := s.mapper.afterPpuRead s.cart a } ∧
    ppuPortWrite s 7 d = (ppuWrite s a d).onPpu (fun q => { q with v := next })

/-- Nametables (R323): an address from 0x2000 to 0x3EFF is cell `a & 0x3FF` of the bank that the mirroring mode gives its
screen; 0x3000 to 0x3EFF is an image of 0x2000 to 0x2EFF; a variant without mirroring control has the header's mode. -/
def Obligations.NametableMirroring : Prop :=
  (∀ (s : State) (a : PpuAddr) (d : Byte), 0x2000 ≤ a.toNat → a.toNat ≤ 0x3EFF →
    let screen := a.toNat / 0x400 % 4
    let bank := match s.mapper.mirroringMode s.cart with
      | .horizontal => if screen = 0 ∨ screen = 1 then 0 else 1
      | .vertical => if screen = 0 ∨ screen = 2 then 0 else 1
      | .singleScreenLow => 0
      | .singleScreenHigh => 1
    let cell := bank * 0x400 + a.toNat % 0x400
    ppuRead s a = (s.ppu.nt.read cell, s) ∧
      ppuWrite s a d = { s with ppu := { s.ppu with nt := s.ppu.nt.write cell d } } ∧
      (0x3000 ≤ a.toNat → ppuRead s a = ppuRead s (a - 0x1000#14) ∧ ppuWrite s a d = ppuWrite s (a - 0x1000#14) d)) ∧
  (∀ (c : Cart) (p : BitVec 4) (x y : BitVec 2),
    let header := match c.hdrMirroring with
      | .horizontal => Mirroring.horizontal
      | .vertical => Mirroring.vertical
    Mapper.fixed.mirroringMode c = header ∧ (Mapper.prgSelect p).mirroringMode c = header ∧
      (Mapper.chrSelect x).mirroringMode c = header ∧ (Mapper.combined x y).mirroringMode c = header)

/-- The palette (R324): 0x3F00 to 0x3FFF is 32 cells repeated, and cells 0x10, 0x14, 0x18, 0x1C are never used: an access
there goes to 0x00, 0x04, 0x08, 0x0C. A write then reads back at every address of the same cell, in its low six bits or,
under greyscale, bits 5:4 (R320; decision D31 of the spec). -/
def Obligations.PaletteAliases : Prop :=
  (∀ a : PpuAddr, palIndex a =
    if a.toNat % 32 = 0x10 then 0x00 else if a.toNat % 32 = 0x14 then 0x04
    else if a.toNat % 32 = 0x18 then 0x08 else if a.toNat % 32 = 0x1C then 0x0C else a.toNat % 32) ∧
  (∀ (s : State) (a b : PpuAddr) (d : Byte), s.Inv → 0x3F00 ≤ a.toNat → 0x3F00 ≤ b.toNat →
    ppuWrite s a d = { s with ppu := { s.ppu with pal := s.ppu.pal.write (palIndex a) d } } ∧
      (ppuRead (ppuWrite s a d) b).1 =
        (if palIndex b = palIndex a then d &&& (if s.ppu.mask.getLsbD 0 then 0x30#8 else 0x3F#8)
         else (ppuRead s b).1))

/-- Pattern memory (R320 to R322, R325; decision D29 of the spec): with no CHR bank, 0x0000 to 0x1FFF is the PPU's own RAM,
written and read back, and a read changes nothing (that id 9's latches stay is the model's, log 10); with CHR ROM a read is
the ROM's byte at an offset inside it (decision D36) and a write changes nothing. -/
def Obligations.PatternMemory : Prop :=
  ∀ (s : State) (a : PpuAddr) (d : Byte), s.Inv → a.toNat ≤ 0x1FFF →
    (s.cart.chrBanks = 0 → ppuRead s a = (s.ppu.chrRam.read a.toNat, s) ∧
      ppuWrite s a d = { s with ppu := { s.ppu with chrRam := s.ppu.chrRam.write a.toNat d } } ∧
      ∀ b : PpuAddr, b.toNat ≤ 0x1FFF →
        (ppuRead (ppuWrite s a d) b).1 = if b = a then d else (ppuRead s b).1) ∧
    (s.cart.chrBanks ≠ 0 → ppuWrite s a d = s ∧
      ∃ o, o < 8192 * s.cart.chrBanks ∧ (ppuRead s a).1 = s.cart.chr.read o ∧
        (ppuRead s a).2 = { s with mapper := (ppuRead s a).2.mapper })

/-! ### The dot clock -/

/-- The beam and the frame (R331): every tick moves the beam one dot on a grid of 262 lines of 341 dots, and
`frame_complete` is set by the tick that wraps it, so that a frame has exactly 89342 ticks whatever the program does. -/
def Obligations.FrameOfTicks : Prop :=
  ∀ (n : Nat) (s : State), -1 ≤ s.ppu.scanline → s.ppu.scanline ≤ 260 → s.ppu.dot ≤ 340 →
    ∃ t, Host.Core.run Sys2Proof.core n s = .next t ∧ t.ppu.beam = (s.ppu.beam + n) % 89342 ∧
      t.ppu.frameComplete = (s.ppu.frameComplete || decide (89342 ≤ s.ppu.beam + n)) ∧
      -1 ≤ t.ppu.scanline ∧ t.ppu.scanline ≤ 260 ∧ t.ppu.dot ≤ 340

/-- The status events (R332): the dot at (241, 1) sets vertical-blank and latches the NMI request if enabled, no other dot
does either; the dot at (-1, 1) clears the three flags and the sprite shifters, and no other dot clears vertical-blank. -/
def Obligations.VerticalBlankEvents : Prop :=
  ∀ s : State,
    let q := s.ppu
    let r := (ppuClock s).ppu
    r.vblank = (if q.scanline = 241 ∧ q.dot = 1 then true else if q.scanline = -1 ∧ q.dot = 1 then false else q.vblank) ∧
    r.nmiReq = (q.nmiReq || (decide (q.scanline = 241 ∧ q.dot = 1) && q.ctrl.getLsbD 7)) ∧
    (q.scanline = -1 → q.dot = 1 → r.spriteOverflow = false ∧ r.spriteZeroHit = false ∧
      r.sprites = q.sprites.map (fun p => { p with lo := 0#8, hi := 0#8 }))

/-- Idle positions (R340): dot 0 of every line, line 240 and lines 241 to 260 do nothing but move the beam, except
`SetVblank` at (241, 1), which sets vertical-blank and latches the NMI request if Control enables it, and nothing else. -/
def Obligations.IdlePositions : Prop :=
  (∀ s : State, s.ppu.dot = 0 ∨ 240 ≤ s.ppu.scanline → ¬(s.ppu.scanline = 241 ∧ s.ppu.dot = 1) →
    ppuClock s = { s with ppu := { s.ppu with
      dot := (ppuClock s).ppu.dot
      scanline := (ppuClock s).ppu.scanline
      frameComplete := (ppuClock s).ppu.frameComplete } }) ∧
  (∀ s : State, s.ppu.scanline = 241 → s.ppu.dot = 1 →
    ppuClock s = { s with ppu := { s.ppu with
      dot := 2
      vblank := true
      nmiReq := s.ppu.nmiReq || s.ppu.ctrl.getLsbD 7 } })

/-- A dot (R330): what it loads, moves and chooses, and what it leaves alone. It leaves everything outside the PPU and the
Mapper's registers, and of the PPU its port registers but `v` and its four memories (R300), so that no CPU address moves.
Of the Mapper, id 4's counter and request and id 9's latches are all that can change, as `MapperOverDot` says (R333, R450,
R455; decision D22 of the spec, log 10). The background latches and shifters go as `BackgroundOverDot` says, each fetch
tied to the nametable, attribute or pattern byte behind it (R345 to R350; decisions D27, D28), the sprite slots as
`SpritesOverDot` says (R332, R350, R355, R356; decisions D17, D28), with the pattern address of `SpriteAddress` on a
sprite's rows (other rows: log 11); and the pixels of FramebufferPixel and SpriteZeroHitWhen are chosen from those
shifters as `PixelChoice` says (R361, R362). -/
def Obligations.DotFrame : Prop :=
  (∀ s : State,
    let t := ppuClock s
    t = { s with ppu := t.ppu, mapper := t.mapper } ∧
    t.ppu = { t.ppu with
      ctrl := s.ppu.ctrl, mask := s.ppu.mask, w := s.ppu.w, t := s.ppu.t, fx := s.ppu.fx, oamaddr := s.ppu.oamaddr,
      rdbuf := s.ppu.rdbuf, nt := s.ppu.nt, pal := s.ppu.pal, chrRam := s.ppu.chrRam, oam := s.ppu.oam } ∧
    (∀ a, t.mapper.cpuMapRead s.cart s.mapperRam a = s.mapper.cpuMapRead s.cart s.mapperRam a) ∧
    MapperOverDot s t ∧ BackgroundOverDot s t.ppu ∧ SpritesOverDot s t.ppu) ∧
  (∀ q : Ppu, SpriteAddress q ∧ ∀ d, PixelChoice q d)

/-- The scroll steps field by field (R351 to R354): coarse X with the nametable flip at 31; fine Y into coarse Y with the
flip at 29 and without one at 31; the horizontal and the vertical reload from `t`. -/
def Obligations.ScrollSteps : Prop :=
  ∀ v t : Loopy,
    (coarseY (nextCoarseX v) = coarseY v ∧ nametableY (nextCoarseX v) = nametableY v ∧ fineY (nextCoarseX v) = fineY v ∧
      (coarseX (nextCoarseX v)).toNat = ((coarseX v).toNat + 1) % 32 ∧
      nametableX (nextCoarseX v) = (if coarseX v = 31#5 then ~~~(nametableX v) else nametableX v)) ∧
    (coarseX (nextY v) = coarseX v ∧ nametableX (nextY v) = nametableX v ∧
      (fineY (nextY v)).toNat = ((fineY v).toNat + 1) % 8 ∧
      coarseY (nextY v) = (if fineY v ≠ 7#3 then coarseY v
        else if coarseY v = 29#5 ∨ coarseY v = 31#5 then 0#5 else coarseY v + 1#5) ∧
      nametableY (nextY v) = (if fineY v = 7#3 ∧ coarseY v = 29#5 then ~~~(nametableY v) else nametableY v)) ∧
    (coarseX (copyX v t) = coarseX t ∧ nametableX (copyX v t) = nametableX t ∧ coarseY (copyX v t) = coarseY v ∧
      nametableY (copyX v t) = nametableY v ∧ fineY (copyX v t) = fineY v) ∧
    (coarseX (copyY v t) = coarseX v ∧ nametableX (copyY v t) = nametableX v ∧ coarseY (copyY v t) = coarseY t ∧
      nametableY (copyY v t) = nametableY t ∧ fineY (copyY v t) = fineY t)

/-- When a dot changes `v` (R330, R351 to R354; decision D27 of the spec): on lines -1 to 239 with rendering enabled, at
each eighth dot of the fetch windows, at dot 256, at dot 257 and, on line -1, from dot 280 to 304; at no other. -/
def Obligations.VramAddressOverADot : Prop :=
  ∀ s : State,
    let q := s.ppu
    let d := q.dot
    let on := decide (-1 ≤ q.scanline ∧ q.scanline ≤ 239) && (q.mask.getLsbD 3 || q.mask.getLsbD 4)
    let v1 := if on && decide (d % 8 = 0 ∧ (8 ≤ d ∧ d ≤ 256 ∨ 328 ≤ d ∧ d ≤ 336)) then nextCoarseX q.v else q.v
    let v2 := if on && decide (d = 256) then nextY v1 else v1
    let v3 := if on && decide (d = 257) then copyX v2 q.t else v2
    (ppuClock s).ppu.v = if on && decide (q.scanline = -1 ∧ 280 ≤ d ∧ d ≤ 304) then copyY v3 q.t else v3

/-- Sprite evaluation as a whole (R355; decision D17 of the spec): the entries in range in OAM order, the first eight of
them in the slots, overflow from the ninth on, `s0_possible` exactly when entry 0 is in range, and nothing else changes;
on line -1 none is in range. -/
def Obligations.SpriteEvaluation : Prop :=
  ∀ (l : Int) (q : Ppu),
    let height : Int := if q.ctrl.getLsbD 5 then 16 else 8
    let found := (List.range 64).filter (fun n =>
      decide (((q.oam.read (4 * n)).toNat : Int) ≤ l ∧ l < ((q.oam.read (4 * n)).toNat : Int) + height))
    let r := spriteEvaluate l q
    r = { q with sprites := r.sprites, secCount := r.secCount, s0Possible := r.s0Possible,
                 spriteOverflow := r.spriteOverflow } ∧
    r.secCount = min 8 found.length ∧
    r.sprites = (found.take 8).map (oamEntry q.oam) ++ List.replicate (8 - found.length) Sprite.empty ∧
    r.spriteOverflow = (q.spriteOverflow || decide (9 ≤ found.length)) ∧
    (r.s0Possible = true ↔ 0 ∈ found) ∧ (l < 0 → found = [])

/-- The framebuffer (R360, R363, R370, R371; decisions D20 and D31 of the spec): a visible dot writes the one pixel at row
`scanline`, column `dot - 1`, from the shifters as they stand after the dot, through the multiplexer's table; with rendering
disabled that pixel is `pal[0]`; no other dot writes any. -/
def Obligations.FramebufferPixel : Prop :=
  (∀ s : State, s.Inv →
    let q := s.ppu
    let r := (ppuClock s).ppu
    (0 ≤ q.scanline → q.scanline ≤ 239 → 1 ≤ q.dot → q.dot ≤ 256 →
      (∀ y x : Nat, x < 256 → r.fb.read (fbIndex y x) =
        if (y : Int) = q.scanline ∧ x + 1 = q.dot then
          paletteLookup r (mux (backgroundPixel r q.dot) (spritePixel r q.dot))
        else q.fb.read (fbIndex y x)) ∧
      (q.mask.getLsbD 3 = false → q.mask.getLsbD 4 = false →
        r.fb.read (fbIndex q.scanline.toNat (q.dot - 1)) =
          (q.pal.read 0 &&& (if q.mask.getLsbD 0 then 0x30#8 else 0x3F#8)).setWidth 6)) ∧
    (¬(0 ≤ q.scanline ∧ q.scanline ≤ 239 ∧ 1 ≤ q.dot ∧ q.dot ≤ 256) → r.fb = q.fb)) ∧
  (∀ (bg : Pixel) (fg : SpritePix),
    (bg.px = 0#2 → fg.pix.px = 0#2 → mux bg fg = ⟨0#2, 0#3⟩) ∧
    (bg.px = 0#2 → fg.pix.px ≠ 0#2 → mux bg fg = fg.pix) ∧
    (bg.px ≠ 0#2 → fg.pix.px = 0#2 → mux bg fg = bg) ∧
    (bg.px ≠ 0#2 → fg.pix.px ≠ 0#2 → mux bg fg = if fg.front then fg.pix else bg))

/-- Sprite-zero-hit (R332, R368; decision D17 of the spec): a dot sets it only on a visible line before column 255, with
both layers enabled and, in the first eight columns, neither hidden there, entry 0 among the line's sprites, both pixels
opaque; once set it stays until (-1, 1). -/
def Obligations.SpriteZeroHitWhen : Prop :=
  ∀ s : State,
    let q := s.ppu
    let r := (ppuClock s).ppu
    (q.spriteZeroHit = true → ¬(q.scanline = -1 ∧ q.dot = 1) → r.spriteZeroHit = true) ∧
    (q.spriteZeroHit = false → (r.spriteZeroHit = true ↔
      0 ≤ q.scanline ∧ q.scanline ≤ 239 ∧ 1 ≤ q.dot ∧ q.dot ≤ 255 ∧ q.s0Possible = true ∧
        (backgroundPixel r q.dot).px ≠ 0#2 ∧ (spritePixel r q.dot).pix.px ≠ 0#2 ∧
        (spritePixel r q.dot).from0 = true)) ∧
    (q.spriteZeroHit = false → r.spriteZeroHit = true →
      q.mask.getLsbD 3 = true ∧ q.mask.getLsbD 4 = true ∧
        (q.dot ≤ 8 → q.mask.getLsbD 1 = true ∧ q.mask.getLsbD 2 = true))

/-! ### The cartridge's variants -/

/-- The shift-register variant (R435): five writes with bit 7 clear, starting at count 0, load the five bits, least
significant first, into the one register that the fifth address selects, and change no other; the first four change
`load` and `count` only; a write with bit 7 set restarts the sequence and selects PRG mode 3. -/
def Obligations.SerialRegisterLoad : Prop :=
  (∀ (r : ShiftRegs) (a0 a1 a2 a3 a4 : Addr) (d0 d1 d2 d3 d4 : Byte), r.count = 0 →
    d0.getLsbD 7 = false → d1.getLsbD 7 = false → d2.getLsbD 7 = false → d3.getLsbD 7 = false →
    d4.getLsbD 7 = false →
    let r4 := (((r.write a0 d0).write a1 d1).write a2 d2).write a3 d3
    let value := d0.toNat % 2 + 2 * (d1.toNat % 2) + 4 * (d2.toNat % 2) + 8 * (d3.toNat % 2) + 16 * (d4.toNat % 2)
    r4 = { r with load := r4.load, count := 4 } ∧
    r4.write a4 d4 = match a4.toNat / 0x2000 % 4 with
      | 0 => { r with load := 0#5, count := 0, control := BitVec.ofNat 5 value }
      | 1 => { r with load := 0#5, count := 0, chrLo := BitVec.ofNat 5 value }
      | 2 => { r with load := 0#5, count := 0, chrHi := BitVec.ofNat 5 value }
      | _ => { r with load := 0#5, count := 0, prg := BitVec.ofNat 4 (value % 16) }) ∧
  (∀ (r : ShiftRegs) (a : Addr) (d : Byte), d.getLsbD 7 = true →
    r.write a d = { r with load := 0#5, count := 0, control := (r.write a d).control } ∧
      ((r.write a d).control.toNat / 4) % 4 = 3 ∧ (r.write a d).control.toNat % 4 = r.control.toNat % 4 ∧
      (r.write a d).control.getLsbD 4 = r.control.getLsbD 4)

/-- The scanline counter (R450): with the counter cleared, the latch at `n` and interrupts enabled, the request is raised by
the hook call number `n + 1` and by none before; while disabled none raises it; an acknowledgement drops it. -/
def Obligations.ScanlineCounter : Prop :=
  ∀ (r : ScanlineRegs) (k : Nat), r.irqCounter = 0#8 → r.irqActive = false →
    (k ≤ r.irqLatch.toNat → (ScanlineRegs.onScanline^[k] r).irqActive = false) ∧
    (k = r.irqLatch.toNat + 1 → (ScanlineRegs.onScanline^[k] r).irqActive = r.irqEnable) ∧
    (r.irqEnable = false → (ScanlineRegs.onScanline^[k] r).irqActive = false) ∧
    (Mapper.scanline (ScanlineRegs.onScanline^[k] r)).irqAcknowledge.irqPending = false

/-- Banks (R423, R430 to R458, R460; decisions D29 and D36 of the spec), in integer arithmetic modulo the ROM's size.
Every window of every variant: PRG ROM in order for ids 0 and 3; id 1's four PRG modes and two CHR modes; id 2's window;
id 4's four PRG windows under `prg_mode` and eight CHR slots under `chr_inv`; id 9's window, its fixed banks (with one PRG
bank: log 9) and its latch-chosen CHR banks; ids 3 and 66. Every register write: what each CPU address at or above 0x8000
changes in ids 4 and 9, and that a write to ids 2, 3 and 66 is seen by the next read (id 1's serial writes:
SerialRegisterLoad). A CPU write there is that register write and nothing else; a mapped offset is the ROM byte read. A
PPU read that id 9 claims is served with the old latch and then moves the latches as `LatchRegs.readAt` says; one it
declines moves none (log 10). -/
def Obligations.BankSwitching : Prop :=
  (∀ (c : Cart) (ram : Mem 8) (a : Addr), 1 ≤ c.prgBanks → 0x8000 ≤ a.toNat →
    let size := 16384 * c.prgBanks
    (∀ r : ShiftRegs, 0xC000 ≤ a.toNat → (r.control.toNat / 4) % 4 = 3 →
      (Mapper.shift r).cpuMapRead c ram a = .mapped (size - 0x4000 + a.toNat % 0x4000)) ∧
    (∀ p : BitVec 4, 0xC000 ≤ a.toNat →
      (Mapper.prgSelect p).cpuMapRead c ram a = .mapped (size - 0x4000 + a.toNat % 0x4000)) ∧
    (∀ r : ScanlineRegs, 0xE000 ≤ a.toNat →
      (Mapper.scanline r).cpuMapRead c ram a = .mapped (size - 0x2000 + a.toNat % 0x2000)) ∧
    (∀ r : LatchRegs, 0xE000 ≤ a.toNat →
      (Mapper.latch r).cpuMapRead c ram a = .mapped (size - 0x2000 + a.toNat % 0x2000)) ∧
    (c.prgBanks ≤ 2 → 0xC000 ≤ a.toNat → Mapper.fixed.cpuMapRead c ram a = .mapped (size - 0x4000 + a.toNat % 0x4000)) ∧
    (∀ (p : BitVec 4) (d : Byte) (b : Addr), a.toNat < 0xC000 →
      ((Mapper.prgSelect p).writeReg b d).cpuMapRead c ram a =
        .mapped ((d.toNat % 16 * 0x4000 + a.toNat % 0x4000) % size)) ∧
    (∀ (p x : BitVec 2) (d : Byte) (b : Addr) (e : PpuAddr),
      ((Mapper.combined p x).writeReg b d).cpuMapRead c ram a =
        .mapped ((d.toNat / 16 % 4 * 0x8000 + a.toNat % 0x8000) % size) ∧
      (c.chrBanks ≠ 0 → e.toNat < 0x2000 →
        ((Mapper.combined p x).writeReg b d).ppuMap c e =
          some ((d.toNat % 4 * 0x2000 + e.toNat) % (8192 * c.chrBanks)) ∧
        ((Mapper.chrSelect x).writeReg b d).ppuMap c e =
          some ((d.toNat % 4 * 0x2000 + e.toNat) % (8192 * c.chrBanks)))) ∧
    (∀ e : PpuAddr, FixedBanks c ram a e ∧ ShiftBanks c ram a e ∧ ScanlineBanks c ram a e ∧ LatchBanks c ram a e)) ∧
  (∀ (a : Addr) (d : Byte), 0x8000 ≤ a.toNat → Mapper.fixed.writeReg a d = .fixed ∧ ScanlineWrite a d ∧ LatchWrite a d) ∧
  (∀ (s : State) (a : Addr) (d : Byte) (o : Nat), 0x8000 ≤ a.toNat →
    busWrite s a d = { s with mapper := s.mapper.writeReg a d } ∧
      (s.mapper.cpuMapRead s.cart s.mapperRam a = .mapped o → busRead s a = (s.cart.prg.read o, s))) ∧
  (∀ (s : State) (e : PpuAddr),
    (∀ o, s.mapper.ppuMap s.cart e = some o → (ppuRead s e).1 = s.cart.chr.read o) ∧
    (∀ r, s.mapper = .latch r → s.cart.chrBanks ≠ 0 → e.toNat < 0x2000 →
      (ppuRead s e).2 = { s with mapper := .latch (r.readAt e.toNat) }) ∧
    (s.cart.chrBanks = 0 ∨ 0x2000 ≤ e.toNat ∨ (∀ r, s.mapper ≠ .latch r) → (ppuRead s e).2 = s))

/-! ### Interrupts -/

/-- Taking an interrupt (R471, R472, R474, R475; decisions D6, D7 and D8 of the spec): the return address and the status
with B clear and U set are pushed, I is set, `PC` comes from the vector, seven cycles are added; an IRQ is dropped while I
is set; a halted CPU takes neither. -/
def Obligations.InterruptEntries : Prop :=
  ∀ s : State, s.Inv →
    let status := (s.cpu.p &&& 0xEF#8) ||| 0x20#8
    (s.cpu.halted = false → Entered s (cpuNmi s) s.cpu.pc status 0xFFFA#16 (s.cpu.cyc + 7)) ∧
    (s.cpu.halted = false → getFlag s.cpu.p .I = false →
      Entered s (cpuIrq s) s.cpu.pc status 0xFFFE#16 (s.cpu.cyc + 7)) ∧
    (s.cpu.halted = true → cpuNmi s = s) ∧
    (s.cpu.halted = true ∨ getFlag s.cpu.p .I = true → cpuIrq s = s)

/-- The polls of a tick (R385 to R387; decision D9 of the spec): the NMI request is cleared and delivered, whether or not
the CPU takes it; the Mapper's request is acknowledged and delivered, and is lost where the CPU drops it; with both pending
the NMI alone is taken. -/
def Obligations.InterruptPolls : Prop :=
  ∀ s : State,
    let cleared := s.onPpu (fun q => { q with nmiReq := false })
    let acked := fun (u : State) => { u with mapper := u.mapper.irqAcknowledge }
    (s.ppu.nmiReq = false → s.mapper.irqPending = false → endTick s = { s with tick := s.tick + 1 }) ∧
    (s.ppu.nmiReq = true → s.mapper.irqPending = false →
      endTick s = { cpuNmi cleared with tick := s.tick + 1 } ∧ (endTick s).ppu.nmiReq = false) ∧
    (s.ppu.nmiReq = false → s.mapper.irqPending = true →
      endTick s = { cpuIrq (acked s) with tick := s.tick + 1 } ∧ (endTick s).mapper.irqPending = false) ∧
    (s.ppu.nmiReq = true → s.mapper.irqPending = true →
      endTick s = { acked (cpuNmi cleared) with tick := s.tick + 1 } ∧ (endTick s).ppu.nmiReq = false ∧
        (endTick s).mapper.irqPending = false)

/-- Calls and exceptions return (R211 to R214, R481): RTS after JSR, RTI after BRK and RTI after an interrupt restore every
CPU register, the flags among them, and the stack pointer for every `S`. -/
def Obligations.ReturnsRestoreTheCpu : Prop :=
  ∀ s : State, s.Inv →
    (∀ a : Addr, ∃ t u, exec (.jsrAbs a) s = .next t ∧ exec .rtsImp t = .next u ∧
      u.cpu = { s.cpu with cyc := 6 }) ∧
    (∃ t u, exec .brkImp s = .next t ∧ exec .rtiImp t = .next u ∧
      u.cpu = { s.cpu with pc := s.cpu.pc + 1#16, cyc := 6 }) ∧
    (s.cpu.halted = false → ∃ u, exec .rtiImp (cpuNmi s) = .next u ∧ u.cpu = { s.cpu with cyc := 6 }) ∧
    (s.cpu.halted = false → ∃ u, exec .rtiImp (cpuIrq s) = .next u ∧
      (getFlag s.cpu.p .I = false → u.cpu = { s.cpu with cyc := 6 }))

/-! ### The tick -/

/-- What a tick does beside the PPU's dot, where no interrupt is pending at its end (R380 to R382; decision D10 of the
spec): two ticks of three it does nothing; in the third the DMA engine has the slot while a transfer is active and the
CPU's count stands still, a halted CPU does nothing, and a CPU that owes cycles counts one down. -/
def Obligations.CpuSlots : Prop :=
  ∀ s : State,
    let u := ppuClock s
    u.ppu.nmiReq = false → u.mapper.irqPending = false →
    (s.tick % 3 ≠ 0 → step s = .next { u with tick := s.tick + 1 }) ∧
    (s.tick % 3 = 0 → s.dma.active = true →
      step s = .next { dmaStep u with tick := s.tick + 1 } ∧ (dmaStep u).cpu = s.cpu) ∧
    (s.tick % 3 = 0 → s.dma.active = false → s.cpu.halted = true → step s = .next { u with tick := s.tick + 1 }) ∧
    (s.tick % 3 = 0 → s.dma.active = false → s.cpu.halted = false → 0 < s.cpu.cyc →
      step s = .next { u with cpu := { s.cpu with cyc := s.cpu.cyc - 1 }, tick := s.tick + 1 })

/-- Sprite DMA (R390, R391, R393; decision D11 of the spec): from the engine as 0x4014 arms it, 513 slots where the first
has an odd tick and 514 where it has an even one copy the page to OAM and leave the engine at rest; no register of the CPU
and no other memory changes. The copy is stated for pages behind which no device port lies; a page of ports takes the same
slots. -/
def Obligations.DmaCopiesAPage : Prop :=
  ∀ s : State, s.Inv → s.dma.active = true → s.dma.dummy = true → s.dma.off = 0#8 →
    let slots := if s.tick % 2 = 1 then 513 else 514
    let t := dmaSlot^[slots] s
    (t.dma = { s.dma with data := t.dma.data, dummy := true, active := false } ∧ t.cpu = s.cpu ∧
      t.tick = s.tick + 3 * slots ∧ t.ram = s.ram ∧ t.mapperRam = s.mapperRam ∧ t.cart = s.cart) ∧
    ((∀ o : Byte, isDevice (cat s.dma.page o) = false) →
      (∀ o : Byte, t.ppu.oam.read o.toNat = busPeek s (cat s.dma.page o)) ∧
      t = { s with ppu := { s.ppu with oam := t.ppu.oam }, dma := t.dma, tick := t.tick })

/-- `Bus.reset()` (R33, R54, R60, R510 to R516; decisions D1, D6, D10, D11, D21 and D24 of the spec): every register at
its reset value, `PC` the word at 0xFFFC with the reset banks, every memory and the cartridge unchanged; `State.reset` is
the launch with the blank cartridge and empty memories (log 3 to log 6). -/
def Obligations.ResetValues : Prop :=
  (∀ s : State,
    let t := busReset s
    t.cpu = { a := 0#8, x := 0#8, y := 0#8, sp := 0xFD#8, p := 0x24#8, pc := wordAt t 0xFFFC#16, cyc := 7,
              halted := false } ∧
    t.ppu = { Ppu.reset with nt := s.ppu.nt, pal := s.ppu.pal, chrRam := s.ppu.chrRam, oam := s.ppu.oam,
                             fb := s.ppu.fb } ∧
    t = { s with cpu := t.cpu, ppu := t.ppu, ctlShift0 := 0#8, ctlShift1 := 0#8, dma := Dma.reset, tick := 0,
                 mapper := s.mapper.reset s.cart.hdrMirroring }) ∧
  State.reset = powerOn { cart := Cart.blank, mapper := .fixed, ram := [], nt := [], pal := [], chrRam := [], oam := [],
                          mapperRam := [], fb := [], ctlIn0 := 0#8, ctlIn1 := 0#8 }

/-- The first instruction after reset (R512, R531; decisions D6 and D10 of the spec): the slots at ticks 0, 3, ..., 18
count the seven cycles down, so that after 21 ticks the CPU is as reset left it but for the count, which is 0, and the beam
is at line 0, dot 21. -/
def Obligations.FirstInstructionAfterReset : Prop :=
  ∀ s : State, ∃ t, Host.Core.run Sys2Proof.core 21 (busReset s) = .next t ∧
    t.cpu = { (busReset s).cpu with cyc := 0 } ∧ t.tick = 21 ∧ t.ppu.scanline = 0 ∧ t.ppu.dot = 21 ∧
    t.dma.active = false ∧ SameMemory (busReset s) { t with ppu := { t.ppu with fb := s.ppu.fb } }

/-! ### The invariant -/

/-- Every step keeps the machine's invariant: U set and B clear in `P`, a halted CPU owing no cycle, the beam on its grid,
eight sprite slots, the DMA engine waiting when at rest, the serial count below 5, every memory canonical and of its size,
the ROMs of theirs (R25, R26, R44, R47 to R53, R56, R62, R64, R86, R131, R435). -/
def Obligations.StepKeepsInvariant : Prop :=
  ∀ s t : State, s.Inv → step s = .next t → t.Inv

/-- The invariant holds in the machine's reset state. -/
def Obligations.ResetMeetsInvariant : Prop := State.reset.Inv

/-- No action of the host leaves the invariant, and none writes the cartridge; only the host's own action changes its input
bytes (R67, R402, R410, R423). -/
def Obligations.HostActionsKeepInvariantAndRom : Prop :=
  ∀ (s t : State) (act : HostAction), hostAct s act = .next t →
    (s.Inv → t.Inv) ∧ t.cart = s.cart ∧
      ((∀ c0 c1, act ≠ .setControllers c0 c1) → t.ctlIn0 = s.ctlIn0 ∧ t.ctlIn1 = s.ctlIn1)

end
end

