-- ==== Sys2Proof/Laws/Mem.lean ====
section
/-! SUPPORT. Memories: what a write leaves readable, and that every memory operation keeps the canonical form. -/

namespace Sys2Proof.Machine

variable {w : Nat}

theorem Mem.wfFrom_mono {low low' : Nat} {m : Mem w} (h : low' ≤ low) (hm : m.wfFrom low = true) :
    m.wfFrom low' = true := by
  cases m with
  | nil => rfl
  | cons c rest =>
    simp only [Mem.wfFrom, Bool.and_eq_true, decide_eq_true_eq] at hm ⊢
    exact ⟨⟨h.trans hm.1.1, hm.1.2⟩, hm.2⟩

/-- Below the first index a canonical memory reads as unlisted. -/
theorem Mem.read_below {low i : Nat} {m : Mem w} (hm : m.wfFrom low = true) (h : i < low) :
    m.read i = Mem.unlisted := by
  cases m with
  | nil => rfl
  | cons c rest =>
    simp only [Mem.wfFrom, Bool.and_eq_true, decide_eq_true_eq] at hm
    have : i < c.1 := lt_of_lt_of_le h hm.1.1
    simp [Mem.read, this, this.ne]

/-- A read after a write to the same cell gives the value written. -/
theorem Mem.read_write_same_from {low : Nat} {m : Mem w} (hm : m.wfFrom low = true) (i : Nat) (v : BitVec w) :
    (m.write i v).read i = v := by
  induction m generalizing low with
  | nil => by_cases hv : v = Mem.unlisted <;> simp [Mem.write, Mem.read, hv]
  | cons c rest ih =>
    simp only [Mem.wfFrom, Bool.and_eq_true, decide_eq_true_eq] at hm
    simp only [Mem.write]
    split
    · rename_i hlt
      by_cases hv : v = Mem.unlisted <;> simp [hv, Mem.read, hlt, hlt.ne]
    · split
      · rename_i heq
        by_cases hv : v = Mem.unlisted
        · simp only [hv, if_true]
          exact Mem.read_below hm.2 (by omega)
        · simp [hv, Mem.read]
      · rename_i h1 h2
        simp only [Mem.read, h2, if_false, h1]
        exact ih hm.2

/-- A write leaves every other cell alone. -/
theorem Mem.read_write_other_from {low : Nat} {m : Mem w} (hm : m.wfFrom low = true) {i j : Nat} (v : BitVec w)
    (h : j ≠ i) : (m.write i v).read j = m.read j := by
  induction m generalizing low with
  | nil =>
    by_cases hv : v = Mem.unlisted
    · simp [Mem.write, hv]
    · simp [Mem.write, Mem.read, hv, h]
  | cons c rest ih =>
    obtain ⟨k, u⟩ := c
    simp only [Mem.wfFrom, Bool.and_eq_true, decide_eq_true_eq] at hm
    simp only [Mem.write]
    split
    · rename_i hlt
      by_cases hv : v = Mem.unlisted
      · simp [hv]
      · simp only [hv, if_false, Mem.read, h]
        by_cases hj : j < i
        · have h1 : j ≠ k := by omega
          have h2 : j < k := by omega
          simp [hj, h1, h2]
        · simp [hj]
    · split
      · rename_i heq
        subst heq
        by_cases hv : v = Mem.unlisted
        · simp only [hv, if_true, Mem.read, h, if_false]
          by_cases hj : j < i
          · simp only [hj, if_true]
            exact Mem.read_below hm.2 (by omega)
          · simp [hj]
        · simp [hv, Mem.read, h]
      · simp only [Mem.read]
        rw [ih hm.2]

@[simp] theorem Mem.read_write_same {m : Mem w} (hm : m.wf = true) (i : Nat) (v : BitVec w) : (m.write i v).read i = v :=
  Mem.read_write_same_from hm i v

theorem Mem.read_write_other {m : Mem w} (hm : m.wf = true) {i j : Nat} (v : BitVec w) (h : j ≠ i) :
    (m.write i v).read j = m.read j :=
  Mem.read_write_other_from hm v h

theorem Mem.read_write {m : Mem w} (hm : m.wf = true) (i j : Nat) (v : BitVec w) :
    (m.write i v).read j = if j = i then v else m.read j := by
  split
  · subst j; exact Mem.read_write_same hm i v
  · exact Mem.read_write_other hm v ‹_›

theorem Mem.write_wfFrom {low : Nat} {m : Mem w} (hm : m.wfFrom low = true) {i : Nat} (h : low ≤ i) (v : BitVec w) :
    (m.write i v).wfFrom low = true := by
  induction m generalizing low with
  | nil => by_cases hv : v = Mem.unlisted <;> simp [Mem.write, Mem.wfFrom, hv, h]
  | cons c rest ih =>
    obtain ⟨k, u⟩ := c
    have hm' := hm
    simp only [Mem.wfFrom, Bool.and_eq_true, decide_eq_true_eq] at hm'
    simp only [Mem.write]
    split
    · rename_i hlt
      by_cases hv : v = Mem.unlisted
      · simpa [hv] using hm
      · simp only [hv, if_false, Mem.wfFrom, Bool.and_eq_true, decide_eq_true_eq]
        exact ⟨⟨h, hv⟩, ⟨hlt, hm'.1.2⟩, hm'.2⟩
    · split
      · rename_i heq
        subst heq
        by_cases hv : v = Mem.unlisted
        · simp only [hv, if_true]
          exact Mem.wfFrom_mono (by omega) hm'.2
        · simp only [hv, if_false, Mem.wfFrom, Bool.and_eq_true, decide_eq_true_eq]
          exact ⟨⟨h, hv⟩, hm'.2⟩
      · simp only [Mem.wfFrom, Bool.and_eq_true, decide_eq_true_eq]
        exact ⟨hm'.1, ih hm'.2 (by omega)⟩

/-- A write keeps the canonical form. -/
theorem Mem.write_wf {m : Mem w} (hm : m.wf = true) (i : Nat) (v : BitVec w) : (m.write i v).wf = true :=
  Mem.write_wfFrom hm (Nat.zero_le i) v

/-- A write inside the bounds keeps every index inside. -/
theorem Mem.write_within {m : Mem w} {n i : Nat} (hm : m.within n = true) (h : i < n) (v : BitVec w) :
    (m.write i v).within n = true := by
  induction m with
  | nil => by_cases hv : v = Mem.unlisted <;> simp [Mem.write, Mem.within, hv, h]
  | cons c rest ih =>
    simp only [Mem.within, List.all_cons, Bool.and_eq_true, decide_eq_true_eq] at hm ih ⊢
    simp only [Mem.write]
    split
    · by_cases hv : v = Mem.unlisted <;> simp [hv, h, hm]
    · split
      · by_cases hv : v = Mem.unlisted
        · simpa [hv] using hm.2
        · simp [hv, h, hm]
      · simp only [List.all_cons, Bool.and_eq_true, decide_eq_true_eq]
        exact ⟨hm.1, ih hm.2⟩

/-- A write inside the bounds keeps a memory of its size. -/
theorem Mem.ok_write {m : Mem w} {n i : Nat} (hm : m.ok n) (h : i < n) (v : BitVec w) : (m.write i v).ok n :=
  ⟨Mem.write_wf hm.1 i v, Mem.write_within hm.2 h v⟩

theorem Mem.ok_nil (n : Nat) : Mem.ok ([] : Mem w) n := ⟨rfl, rfl⟩

/-- Canonical memories that read alike are equal data. -/
theorem Mem.ext_from {low : Nat} {m m' : Mem w} (hm : m.wfFrom low = true) (hm' : m'.wfFrom low = true)
    (h : ∀ i, m.read i = m'.read i) : m = m' := by
  induction m generalizing m' low with
  | nil =>
    cases m' with
    | nil => rfl
    | cons c rest =>
      simp only [Mem.wfFrom, Bool.and_eq_true, decide_eq_true_eq] at hm'
      have := h c.1
      simp only [Mem.read, if_true] at this
      exact absurd this.symm hm'.1.2
  | cons c rest ih =>
    obtain ⟨k, u⟩ := c
    simp only [Mem.wfFrom, Bool.and_eq_true, decide_eq_true_eq] at hm
    cases m' with
    | nil =>
      have := h k
      simp only [Mem.read, if_true] at this
      exact absurd this hm.1.2
    | cons c' rest' =>
      obtain ⟨k', u'⟩ := c'
      simp only [Mem.wfFrom, Bool.and_eq_true, decide_eq_true_eq] at hm'
      have hk : k = k' := by
        have h1 := h k
        have h2 := h k'
        simp only [Mem.read, if_true] at h1 h2
        by_contra hne
        rcases Nat.lt_or_gt_of_ne hne with hl | hl
        · simp only [hne, hl, if_true, if_false] at h1
          exact hm.1.2 h1
        · have hne' : ¬ k' = k := fun e => hne e.symm
          simp only [hne', hl, if_true, if_false] at h2
          exact hm'.1.2 h2.symm
      subst hk
      have hu : u = u' := by simpa [Mem.read] using h k
      subst hu
      have hr : rest = rest' := by
        refine ih hm.2 hm'.2 fun i => ?_
        by_cases hi : i < k + 1
        · rw [Mem.read_below hm.2 hi, Mem.read_below hm'.2 hi]
        · have h1 : ¬ i = k := by omega
          have h2 : ¬ i < k := by omega
          simpa [Mem.read, h1, h2] using h i
      rw [hr]

theorem Mem.ext {m m' : Mem w} (hm : m.wf = true) (hm' : m'.wf = true) (h : ∀ i, m.read i = m'.read i) : m = m' :=
  Mem.ext_from hm hm' h

/-- The memory after reset has the canonical form. -/
theorem reset_memories_wf :
    State.reset.ram.wf = true ∧ State.reset.mapperRam.wf = true ∧ State.reset.cart.prg.wf = true ∧
      State.reset.cart.chr.wf = true ∧ State.reset.ppu.nt.wf = true ∧ State.reset.ppu.pal.wf = true ∧
      State.reset.ppu.chrRam.wf = true ∧ State.reset.ppu.oam.wf = true ∧ State.reset.ppu.fb.wf = true := by decide

end Sys2Proof.Machine
end

