-- ==== Sys2Proof/Laws/State.lean ====
section
/-! SUPPORT. One lemma per field per update of State: what each named update writes and what it keeps. -/

namespace Sys2Proof.Machine

/-! ### `setA` -/

@[simp] theorem setA_cpu_a (s : State) (v : Byte) : (s.setA v).cpu.a = v := rfl
@[simp] theorem setA_cpu_x (s : State) (v : Byte) : (s.setA v).cpu.x = s.cpu.x := rfl
@[simp] theorem setA_cpu_y (s : State) (v : Byte) : (s.setA v).cpu.y = s.cpu.y := rfl
@[simp] theorem setA_cpu_sp (s : State) (v : Byte) : (s.setA v).cpu.sp = s.cpu.sp := rfl
@[simp] theorem setA_cpu_p (s : State) (v : Byte) : (s.setA v).cpu.p = s.cpu.p := rfl
@[simp] theorem setA_cpu_pc (s : State) (v : Byte) : (s.setA v).cpu.pc = s.cpu.pc := rfl
@[simp] theorem setA_cpu_cyc (s : State) (v : Byte) : (s.setA v).cpu.cyc = s.cpu.cyc := rfl
@[simp] theorem setA_cpu_halted (s : State) (v : Byte) : (s.setA v).cpu.halted = s.cpu.halted := rfl
@[simp] theorem setA_ppu (s : State) (v : Byte) : (s.setA v).ppu = s.ppu := rfl
@[simp] theorem setA_ram (s : State) (v : Byte) : (s.setA v).ram = s.ram := rfl
@[simp] theorem setA_ctlShift0 (s : State) (v : Byte) : (s.setA v).ctlShift0 = s.ctlShift0 := rfl
@[simp] theorem setA_ctlShift1 (s : State) (v : Byte) : (s.setA v).ctlShift1 = s.ctlShift1 := rfl
@[simp] theorem setA_dma (s : State) (v : Byte) : (s.setA v).dma = s.dma := rfl
@[simp] theorem setA_tick (s : State) (v : Byte) : (s.setA v).tick = s.tick := rfl
@[simp] theorem setA_mapper (s : State) (v : Byte) : (s.setA v).mapper = s.mapper := rfl
@[simp] theorem setA_mapperRam (s : State) (v : Byte) : (s.setA v).mapperRam = s.mapperRam := rfl
@[simp] theorem setA_cart (s : State) (v : Byte) : (s.setA v).cart = s.cart := rfl
@[simp] theorem setA_ctlIn0 (s : State) (v : Byte) : (s.setA v).ctlIn0 = s.ctlIn0 := rfl
@[simp] theorem setA_ctlIn1 (s : State) (v : Byte) : (s.setA v).ctlIn1 = s.ctlIn1 := rfl

/-! ### `setX` -/

@[simp] theorem setX_cpu_a (s : State) (v : Byte) : (s.setX v).cpu.a = s.cpu.a := rfl
@[simp] theorem setX_cpu_x (s : State) (v : Byte) : (s.setX v).cpu.x = v := rfl
@[simp] theorem setX_cpu_y (s : State) (v : Byte) : (s.setX v).cpu.y = s.cpu.y := rfl
@[simp] theorem setX_cpu_sp (s : State) (v : Byte) : (s.setX v).cpu.sp = s.cpu.sp := rfl
@[simp] theorem setX_cpu_p (s : State) (v : Byte) : (s.setX v).cpu.p = s.cpu.p := rfl
@[simp] theorem setX_cpu_pc (s : State) (v : Byte) : (s.setX v).cpu.pc = s.cpu.pc := rfl
@[simp] theorem setX_cpu_cyc (s : State) (v : Byte) : (s.setX v).cpu.cyc = s.cpu.cyc := rfl
@[simp] theorem setX_cpu_halted (s : State) (v : Byte) : (s.setX v).cpu.halted = s.cpu.halted := rfl
@[simp] theorem setX_ppu (s : State) (v : Byte) : (s.setX v).ppu = s.ppu := rfl
@[simp] theorem setX_ram (s : State) (v : Byte) : (s.setX v).ram = s.ram := rfl
@[simp] theorem setX_ctlShift0 (s : State) (v : Byte) : (s.setX v).ctlShift0 = s.ctlShift0 := rfl
@[simp] theorem setX_ctlShift1 (s : State) (v : Byte) : (s.setX v).ctlShift1 = s.ctlShift1 := rfl
@[simp] theorem setX_dma (s : State) (v : Byte) : (s.setX v).dma = s.dma := rfl
@[simp] theorem setX_tick (s : State) (v : Byte) : (s.setX v).tick = s.tick := rfl
@[simp] theorem setX_mapper (s : State) (v : Byte) : (s.setX v).mapper = s.mapper := rfl
@[simp] theorem setX_mapperRam (s : State) (v : Byte) : (s.setX v).mapperRam = s.mapperRam := rfl
@[simp] theorem setX_cart (s : State) (v : Byte) : (s.setX v).cart = s.cart := rfl
@[simp] theorem setX_ctlIn0 (s : State) (v : Byte) : (s.setX v).ctlIn0 = s.ctlIn0 := rfl
@[simp] theorem setX_ctlIn1 (s : State) (v : Byte) : (s.setX v).ctlIn1 = s.ctlIn1 := rfl

/-! ### `setY` -/

@[simp] theorem setY_cpu_a (s : State) (v : Byte) : (s.setY v).cpu.a = s.cpu.a := rfl
@[simp] theorem setY_cpu_x (s : State) (v : Byte) : (s.setY v).cpu.x = s.cpu.x := rfl
@[simp] theorem setY_cpu_y (s : State) (v : Byte) : (s.setY v).cpu.y = v := rfl
@[simp] theorem setY_cpu_sp (s : State) (v : Byte) : (s.setY v).cpu.sp = s.cpu.sp := rfl
@[simp] theorem setY_cpu_p (s : State) (v : Byte) : (s.setY v).cpu.p = s.cpu.p := rfl
@[simp] theorem setY_cpu_pc (s : State) (v : Byte) : (s.setY v).cpu.pc = s.cpu.pc := rfl
@[simp] theorem setY_cpu_cyc (s : State) (v : Byte) : (s.setY v).cpu.cyc = s.cpu.cyc := rfl
@[simp] theorem setY_cpu_halted (s : State) (v : Byte) : (s.setY v).cpu.halted = s.cpu.halted := rfl
@[simp] theorem setY_ppu (s : State) (v : Byte) : (s.setY v).ppu = s.ppu := rfl
@[simp] theorem setY_ram (s : State) (v : Byte) : (s.setY v).ram = s.ram := rfl
@[simp] theorem setY_ctlShift0 (s : State) (v : Byte) : (s.setY v).ctlShift0 = s.ctlShift0 := rfl
@[simp] theorem setY_ctlShift1 (s : State) (v : Byte) : (s.setY v).ctlShift1 = s.ctlShift1 := rfl
@[simp] theorem setY_dma (s : State) (v : Byte) : (s.setY v).dma = s.dma := rfl
@[simp] theorem setY_tick (s : State) (v : Byte) : (s.setY v).tick = s.tick := rfl
@[simp] theorem setY_mapper (s : State) (v : Byte) : (s.setY v).mapper = s.mapper := rfl
@[simp] theorem setY_mapperRam (s : State) (v : Byte) : (s.setY v).mapperRam = s.mapperRam := rfl
@[simp] theorem setY_cart (s : State) (v : Byte) : (s.setY v).cart = s.cart := rfl
@[simp] theorem setY_ctlIn0 (s : State) (v : Byte) : (s.setY v).ctlIn0 = s.ctlIn0 := rfl
@[simp] theorem setY_ctlIn1 (s : State) (v : Byte) : (s.setY v).ctlIn1 = s.ctlIn1 := rfl

/-! ### `setSp` -/

@[simp] theorem setSp_cpu_a (s : State) (v : Byte) : (s.setSp v).cpu.a = s.cpu.a := rfl
@[simp] theorem setSp_cpu_x (s : State) (v : Byte) : (s.setSp v).cpu.x = s.cpu.x := rfl
@[simp] theorem setSp_cpu_y (s : State) (v : Byte) : (s.setSp v).cpu.y = s.cpu.y := rfl
@[simp] theorem setSp_cpu_sp (s : State) (v : Byte) : (s.setSp v).cpu.sp = v := rfl
@[simp] theorem setSp_cpu_p (s : State) (v : Byte) : (s.setSp v).cpu.p = s.cpu.p := rfl
@[simp] theorem setSp_cpu_pc (s : State) (v : Byte) : (s.setSp v).cpu.pc = s.cpu.pc := rfl
@[simp] theorem setSp_cpu_cyc (s : State) (v : Byte) : (s.setSp v).cpu.cyc = s.cpu.cyc := rfl
@[simp] theorem setSp_cpu_halted (s : State) (v : Byte) : (s.setSp v).cpu.halted = s.cpu.halted := rfl
@[simp] theorem setSp_ppu (s : State) (v : Byte) : (s.setSp v).ppu = s.ppu := rfl
@[simp] theorem setSp_ram (s : State) (v : Byte) : (s.setSp v).ram = s.ram := rfl
@[simp] theorem setSp_ctlShift0 (s : State) (v : Byte) : (s.setSp v).ctlShift0 = s.ctlShift0 := rfl
@[simp] theorem setSp_ctlShift1 (s : State) (v : Byte) : (s.setSp v).ctlShift1 = s.ctlShift1 := rfl
@[simp] theorem setSp_dma (s : State) (v : Byte) : (s.setSp v).dma = s.dma := rfl
@[simp] theorem setSp_tick (s : State) (v : Byte) : (s.setSp v).tick = s.tick := rfl
@[simp] theorem setSp_mapper (s : State) (v : Byte) : (s.setSp v).mapper = s.mapper := rfl
@[simp] theorem setSp_mapperRam (s : State) (v : Byte) : (s.setSp v).mapperRam = s.mapperRam := rfl
@[simp] theorem setSp_cart (s : State) (v : Byte) : (s.setSp v).cart = s.cart := rfl
@[simp] theorem setSp_ctlIn0 (s : State) (v : Byte) : (s.setSp v).ctlIn0 = s.ctlIn0 := rfl
@[simp] theorem setSp_ctlIn1 (s : State) (v : Byte) : (s.setSp v).ctlIn1 = s.ctlIn1 := rfl

/-! ### `setP` -/

@[simp] theorem setP_cpu_a (s : State) (v : Byte) : (s.setP v).cpu.a = s.cpu.a := rfl
@[simp] theorem setP_cpu_x (s : State) (v : Byte) : (s.setP v).cpu.x = s.cpu.x := rfl
@[simp] theorem setP_cpu_y (s : State) (v : Byte) : (s.setP v).cpu.y = s.cpu.y := rfl
@[simp] theorem setP_cpu_sp (s : State) (v : Byte) : (s.setP v).cpu.sp = s.cpu.sp := rfl
@[simp] theorem setP_cpu_p (s : State) (v : Byte) : (s.setP v).cpu.p = v := rfl
@[simp] theorem setP_cpu_pc (s : State) (v : Byte) : (s.setP v).cpu.pc = s.cpu.pc := rfl
@[simp] theorem setP_cpu_cyc (s : State) (v : Byte) : (s.setP v).cpu.cyc = s.cpu.cyc := rfl
@[simp] theorem setP_cpu_halted (s : State) (v : Byte) : (s.setP v).cpu.halted = s.cpu.halted := rfl
@[simp] theorem setP_ppu (s : State) (v : Byte) : (s.setP v).ppu = s.ppu := rfl
@[simp] theorem setP_ram (s : State) (v : Byte) : (s.setP v).ram = s.ram := rfl
@[simp] theorem setP_ctlShift0 (s : State) (v : Byte) : (s.setP v).ctlShift0 = s.ctlShift0 := rfl
@[simp] theorem setP_ctlShift1 (s : State) (v : Byte) : (s.setP v).ctlShift1 = s.ctlShift1 := rfl
@[simp] theorem setP_dma (s : State) (v : Byte) : (s.setP v).dma = s.dma := rfl
@[simp] theorem setP_tick (s : State) (v : Byte) : (s.setP v).tick = s.tick := rfl
@[simp] theorem setP_mapper (s : State) (v : Byte) : (s.setP v).mapper = s.mapper := rfl
@[simp] theorem setP_mapperRam (s : State) (v : Byte) : (s.setP v).mapperRam = s.mapperRam := rfl
@[simp] theorem setP_cart (s : State) (v : Byte) : (s.setP v).cart = s.cart := rfl
@[simp] theorem setP_ctlIn0 (s : State) (v : Byte) : (s.setP v).ctlIn0 = s.ctlIn0 := rfl
@[simp] theorem setP_ctlIn1 (s : State) (v : Byte) : (s.setP v).ctlIn1 = s.ctlIn1 := rfl

/-! ### `setPc` -/

@[simp] theorem setPc_cpu_a (s : State) (v : Addr) : (s.setPc v).cpu.a = s.cpu.a := rfl
@[simp] theorem setPc_cpu_x (s : State) (v : Addr) : (s.setPc v).cpu.x = s.cpu.x := rfl
@[simp] theorem setPc_cpu_y (s : State) (v : Addr) : (s.setPc v).cpu.y = s.cpu.y := rfl
@[simp] theorem setPc_cpu_sp (s : State) (v : Addr) : (s.setPc v).cpu.sp = s.cpu.sp := rfl
@[simp] theorem setPc_cpu_p (s : State) (v : Addr) : (s.setPc v).cpu.p = s.cpu.p := rfl
@[simp] theorem setPc_cpu_pc (s : State) (v : Addr) : (s.setPc v).cpu.pc = v := rfl
@[simp] theorem setPc_cpu_cyc (s : State) (v : Addr) : (s.setPc v).cpu.cyc = s.cpu.cyc := rfl
@[simp] theorem setPc_cpu_halted (s : State) (v : Addr) : (s.setPc v).cpu.halted = s.cpu.halted := rfl
@[simp] theorem setPc_ppu (s : State) (v : Addr) : (s.setPc v).ppu = s.ppu := rfl
@[simp] theorem setPc_ram (s : State) (v : Addr) : (s.setPc v).ram = s.ram := rfl
@[simp] theorem setPc_ctlShift0 (s : State) (v : Addr) : (s.setPc v).ctlShift0 = s.ctlShift0 := rfl
@[simp] theorem setPc_ctlShift1 (s : State) (v : Addr) : (s.setPc v).ctlShift1 = s.ctlShift1 := rfl
@[simp] theorem setPc_dma (s : State) (v : Addr) : (s.setPc v).dma = s.dma := rfl
@[simp] theorem setPc_tick (s : State) (v : Addr) : (s.setPc v).tick = s.tick := rfl
@[simp] theorem setPc_mapper (s : State) (v : Addr) : (s.setPc v).mapper = s.mapper := rfl
@[simp] theorem setPc_mapperRam (s : State) (v : Addr) : (s.setPc v).mapperRam = s.mapperRam := rfl
@[simp] theorem setPc_cart (s : State) (v : Addr) : (s.setPc v).cart = s.cart := rfl
@[simp] theorem setPc_ctlIn0 (s : State) (v : Addr) : (s.setPc v).ctlIn0 = s.ctlIn0 := rfl
@[simp] theorem setPc_ctlIn1 (s : State) (v : Addr) : (s.setPc v).ctlIn1 = s.ctlIn1 := rfl

/-! ### `setCyc` -/

@[simp] theorem setCyc_cpu_a (s : State) (v : Nat) : (s.setCyc v).cpu.a = s.cpu.a := rfl
@[simp] theorem setCyc_cpu_x (s : State) (v : Nat) : (s.setCyc v).cpu.x = s.cpu.x := rfl
@[simp] theorem setCyc_cpu_y (s : State) (v : Nat) : (s.setCyc v).cpu.y = s.cpu.y := rfl
@[simp] theorem setCyc_cpu_sp (s : State) (v : Nat) : (s.setCyc v).cpu.sp = s.cpu.sp := rfl
@[simp] theorem setCyc_cpu_p (s : State) (v : Nat) : (s.setCyc v).cpu.p = s.cpu.p := rfl
@[simp] theorem setCyc_cpu_pc (s : State) (v : Nat) : (s.setCyc v).cpu.pc = s.cpu.pc := rfl
@[simp] theorem setCyc_cpu_cyc (s : State) (v : Nat) : (s.setCyc v).cpu.cyc = v := rfl
@[simp] theorem setCyc_cpu_halted (s : State) (v : Nat) : (s.setCyc v).cpu.halted = s.cpu.halted := rfl
@[simp] theorem setCyc_ppu (s : State) (v : Nat) : (s.setCyc v).ppu = s.ppu := rfl
@[simp] theorem setCyc_ram (s : State) (v : Nat) : (s.setCyc v).ram = s.ram := rfl
@[simp] theorem setCyc_ctlShift0 (s : State) (v : Nat) : (s.setCyc v).ctlShift0 = s.ctlShift0 := rfl
@[simp] theorem setCyc_ctlShift1 (s : State) (v : Nat) : (s.setCyc v).ctlShift1 = s.ctlShift1 := rfl
@[simp] theorem setCyc_dma (s : State) (v : Nat) : (s.setCyc v).dma = s.dma := rfl
@[simp] theorem setCyc_tick (s : State) (v : Nat) : (s.setCyc v).tick = s.tick := rfl
@[simp] theorem setCyc_mapper (s : State) (v : Nat) : (s.setCyc v).mapper = s.mapper := rfl
@[simp] theorem setCyc_mapperRam (s : State) (v : Nat) : (s.setCyc v).mapperRam = s.mapperRam := rfl
@[simp] theorem setCyc_cart (s : State) (v : Nat) : (s.setCyc v).cart = s.cart := rfl
@[simp] theorem setCyc_ctlIn0 (s : State) (v : Nat) : (s.setCyc v).ctlIn0 = s.ctlIn0 := rfl
@[simp] theorem setCyc_ctlIn1 (s : State) (v : Nat) : (s.setCyc v).ctlIn1 = s.ctlIn1 := rfl

/-! ### `setHalted` -/

@[simp] theorem setHalted_cpu_a (s : State) (v : Bool) : (s.setHalted v).cpu.a = s.cpu.a := rfl
@[simp] theorem setHalted_cpu_x (s : State) (v : Bool) : (s.setHalted v).cpu.x = s.cpu.x := rfl
@[simp] theorem setHalted_cpu_y (s : State) (v : Bool) : (s.setHalted v).cpu.y = s.cpu.y := rfl
@[simp] theorem setHalted_cpu_sp (s : State) (v : Bool) : (s.setHalted v).cpu.sp = s.cpu.sp := rfl
@[simp] theorem setHalted_cpu_p (s : State) (v : Bool) : (s.setHalted v).cpu.p = s.cpu.p := rfl
@[simp] theorem setHalted_cpu_pc (s : State) (v : Bool) : (s.setHalted v).cpu.pc = s.cpu.pc := rfl
@[simp] theorem setHalted_cpu_cyc (s : State) (v : Bool) : (s.setHalted v).cpu.cyc = s.cpu.cyc := rfl
@[simp] theorem setHalted_cpu_halted (s : State) (v : Bool) : (s.setHalted v).cpu.halted = v := rfl
@[simp] theorem setHalted_ppu (s : State) (v : Bool) : (s.setHalted v).ppu = s.ppu := rfl
@[simp] theorem setHalted_ram (s : State) (v : Bool) : (s.setHalted v).ram = s.ram := rfl
@[simp] theorem setHalted_ctlShift0 (s : State) (v : Bool) : (s.setHalted v).ctlShift0 = s.ctlShift0 := rfl
@[simp] theorem setHalted_ctlShift1 (s : State) (v : Bool) : (s.setHalted v).ctlShift1 = s.ctlShift1 := rfl
@[simp] theorem setHalted_dma (s : State) (v : Bool) : (s.setHalted v).dma = s.dma := rfl
@[simp] theorem setHalted_tick (s : State) (v : Bool) : (s.setHalted v).tick = s.tick := rfl
@[simp] theorem setHalted_mapper (s : State) (v : Bool) : (s.setHalted v).mapper = s.mapper := rfl
@[simp] theorem setHalted_mapperRam (s : State) (v : Bool) : (s.setHalted v).mapperRam = s.mapperRam := rfl
@[simp] theorem setHalted_cart (s : State) (v : Bool) : (s.setHalted v).cart = s.cart := rfl
@[simp] theorem setHalted_ctlIn0 (s : State) (v : Bool) : (s.setHalted v).ctlIn0 = s.ctlIn0 := rfl
@[simp] theorem setHalted_ctlIn1 (s : State) (v : Bool) : (s.setHalted v).ctlIn1 = s.ctlIn1 := rfl

/-! ### Updates made of those -/

@[simp] theorem addCyc_cpu_a (s : State) (n : Nat) : (s.addCyc n).cpu.a = s.cpu.a := rfl
@[simp] theorem addCyc_cpu_x (s : State) (n : Nat) : (s.addCyc n).cpu.x = s.cpu.x := rfl
@[simp] theorem addCyc_cpu_y (s : State) (n : Nat) : (s.addCyc n).cpu.y = s.cpu.y := rfl
@[simp] theorem addCyc_cpu_sp (s : State) (n : Nat) : (s.addCyc n).cpu.sp = s.cpu.sp := rfl
@[simp] theorem addCyc_cpu_p (s : State) (n : Nat) : (s.addCyc n).cpu.p = s.cpu.p := rfl
@[simp] theorem addCyc_cpu_pc (s : State) (n : Nat) : (s.addCyc n).cpu.pc = s.cpu.pc := rfl
@[simp] theorem addCyc_cpu_cyc (s : State) (n : Nat) : (s.addCyc n).cpu.cyc = s.cpu.cyc + n := rfl
@[simp] theorem addCyc_cpu_halted (s : State) (n : Nat) : (s.addCyc n).cpu.halted = s.cpu.halted := rfl
@[simp] theorem addCyc_ppu (s : State) (n : Nat) : (s.addCyc n).ppu = s.ppu := rfl
@[simp] theorem addCyc_ram (s : State) (n : Nat) : (s.addCyc n).ram = s.ram := rfl
@[simp] theorem addCyc_ctlShift0 (s : State) (n : Nat) : (s.addCyc n).ctlShift0 = s.ctlShift0 := rfl
@[simp] theorem addCyc_ctlShift1 (s : State) (n : Nat) : (s.addCyc n).ctlShift1 = s.ctlShift1 := rfl
@[simp] theorem addCyc_dma (s : State) (n : Nat) : (s.addCyc n).dma = s.dma := rfl
@[simp] theorem addCyc_tick (s : State) (n : Nat) : (s.addCyc n).tick = s.tick := rfl
@[simp] theorem addCyc_mapper (s : State) (n : Nat) : (s.addCyc n).mapper = s.mapper := rfl
@[simp] theorem addCyc_mapperRam (s : State) (n : Nat) : (s.addCyc n).mapperRam = s.mapperRam := rfl
@[simp] theorem addCyc_cart (s : State) (n : Nat) : (s.addCyc n).cart = s.cart := rfl
@[simp] theorem addCyc_ctlIn0 (s : State) (n : Nat) : (s.addCyc n).ctlIn0 = s.ctlIn0 := rfl
@[simp] theorem addCyc_ctlIn1 (s : State) (n : Nat) : (s.addCyc n).ctlIn1 = s.ctlIn1 := rfl

@[simp] theorem setZN_cpu_a (s : State) (v : Byte) : (s.setZN v).cpu.a = s.cpu.a := rfl
@[simp] theorem setZN_cpu_x (s : State) (v : Byte) : (s.setZN v).cpu.x = s.cpu.x := rfl
@[simp] theorem setZN_cpu_y (s : State) (v : Byte) : (s.setZN v).cpu.y = s.cpu.y := rfl
@[simp] theorem setZN_cpu_sp (s : State) (v : Byte) : (s.setZN v).cpu.sp = s.cpu.sp := rfl
@[simp] theorem setZN_cpu_p (s : State) (v : Byte) : (s.setZN v).cpu.p = znFlags s.cpu.p v := rfl
@[simp] theorem setZN_cpu_pc (s : State) (v : Byte) : (s.setZN v).cpu.pc = s.cpu.pc := rfl
@[simp] theorem setZN_cpu_cyc (s : State) (v : Byte) : (s.setZN v).cpu.cyc = s.cpu.cyc := rfl
@[simp] theorem setZN_cpu_halted (s : State) (v : Byte) : (s.setZN v).cpu.halted = s.cpu.halted := rfl
@[simp] theorem setZN_ppu (s : State) (v : Byte) : (s.setZN v).ppu = s.ppu := rfl
@[simp] theorem setZN_ram (s : State) (v : Byte) : (s.setZN v).ram = s.ram := rfl
@[simp] theorem setZN_ctlShift0 (s : State) (v : Byte) : (s.setZN v).ctlShift0 = s.ctlShift0 := rfl
@[simp] theorem setZN_ctlShift1 (s : State) (v : Byte) : (s.setZN v).ctlShift1 = s.ctlShift1 := rfl
@[simp] theorem setZN_dma (s : State) (v : Byte) : (s.setZN v).dma = s.dma := rfl
@[simp] theorem setZN_tick (s : State) (v : Byte) : (s.setZN v).tick = s.tick := rfl
@[simp] theorem setZN_mapper (s : State) (v : Byte) : (s.setZN v).mapper = s.mapper := rfl
@[simp] theorem setZN_mapperRam (s : State) (v : Byte) : (s.setZN v).mapperRam = s.mapperRam := rfl
@[simp] theorem setZN_cart (s : State) (v : Byte) : (s.setZN v).cart = s.cart := rfl
@[simp] theorem setZN_ctlIn0 (s : State) (v : Byte) : (s.setZN v).ctlIn0 = s.ctlIn0 := rfl
@[simp] theorem setZN_ctlIn1 (s : State) (v : Byte) : (s.setZN v).ctlIn1 = s.ctlIn1 := rfl

@[simp] theorem putFlag_cpu_a (s : State) (f : Flag) (b : Bool) : (s.putFlag f b).cpu.a = s.cpu.a := rfl
@[simp] theorem putFlag_cpu_x (s : State) (f : Flag) (b : Bool) : (s.putFlag f b).cpu.x = s.cpu.x := rfl
@[simp] theorem putFlag_cpu_y (s : State) (f : Flag) (b : Bool) : (s.putFlag f b).cpu.y = s.cpu.y := rfl
@[simp] theorem putFlag_cpu_sp (s : State) (f : Flag) (b : Bool) : (s.putFlag f b).cpu.sp = s.cpu.sp := rfl
@[simp] theorem putFlag_cpu_p (s : State) (f : Flag) (b : Bool) : (s.putFlag f b).cpu.p = setFlag s.cpu.p f b := rfl
@[simp] theorem putFlag_cpu_pc (s : State) (f : Flag) (b : Bool) : (s.putFlag f b).cpu.pc = s.cpu.pc := rfl
@[simp] theorem putFlag_cpu_cyc (s : State) (f : Flag) (b : Bool) : (s.putFlag f b).cpu.cyc = s.cpu.cyc := rfl
@[simp] theorem putFlag_cpu_halted (s : State) (f : Flag) (b : Bool) : (s.putFlag f b).cpu.halted = s.cpu.halted := rfl
@[simp] theorem putFlag_ppu (s : State) (f : Flag) (b : Bool) : (s.putFlag f b).ppu = s.ppu := rfl
@[simp] theorem putFlag_ram (s : State) (f : Flag) (b : Bool) : (s.putFlag f b).ram = s.ram := rfl
@[simp] theorem putFlag_ctlShift0 (s : State) (f : Flag) (b : Bool) : (s.putFlag f b).ctlShift0 = s.ctlShift0 := rfl
@[simp] theorem putFlag_ctlShift1 (s : State) (f : Flag) (b : Bool) : (s.putFlag f b).ctlShift1 = s.ctlShift1 := rfl
@[simp] theorem putFlag_dma (s : State) (f : Flag) (b : Bool) : (s.putFlag f b).dma = s.dma := rfl
@[simp] theorem putFlag_tick (s : State) (f : Flag) (b : Bool) : (s.putFlag f b).tick = s.tick := rfl
@[simp] theorem putFlag_mapper (s : State) (f : Flag) (b : Bool) : (s.putFlag f b).mapper = s.mapper := rfl
@[simp] theorem putFlag_mapperRam (s : State) (f : Flag) (b : Bool) : (s.putFlag f b).mapperRam = s.mapperRam := rfl
@[simp] theorem putFlag_cart (s : State) (f : Flag) (b : Bool) : (s.putFlag f b).cart = s.cart := rfl
@[simp] theorem putFlag_ctlIn0 (s : State) (f : Flag) (b : Bool) : (s.putFlag f b).ctlIn0 = s.ctlIn0 := rfl
@[simp] theorem putFlag_ctlIn1 (s : State) (f : Flag) (b : Bool) : (s.putFlag f b).ctlIn1 = s.ctlIn1 := rfl

/-! ### `onPpu` -/

@[simp] theorem onPpu_cpu (s : State) (f : Ppu → Ppu) : (s.onPpu f).cpu = s.cpu := rfl
@[simp] theorem onPpu_ppu (s : State) (f : Ppu → Ppu) : (s.onPpu f).ppu = f s.ppu := rfl
@[simp] theorem onPpu_ram (s : State) (f : Ppu → Ppu) : (s.onPpu f).ram = s.ram := rfl
@[simp] theorem onPpu_ctlShift0 (s : State) (f : Ppu → Ppu) : (s.onPpu f).ctlShift0 = s.ctlShift0 := rfl
@[simp] theorem onPpu_ctlShift1 (s : State) (f : Ppu → Ppu) : (s.onPpu f).ctlShift1 = s.ctlShift1 := rfl
@[simp] theorem onPpu_dma (s : State) (f : Ppu → Ppu) : (s.onPpu f).dma = s.dma := rfl
@[simp] theorem onPpu_tick (s : State) (f : Ppu → Ppu) : (s.onPpu f).tick = s.tick := rfl
@[simp] theorem onPpu_mapper (s : State) (f : Ppu → Ppu) : (s.onPpu f).mapper = s.mapper := rfl
@[simp] theorem onPpu_mapperRam (s : State) (f : Ppu → Ppu) : (s.onPpu f).mapperRam = s.mapperRam := rfl
@[simp] theorem onPpu_cart (s : State) (f : Ppu → Ppu) : (s.onPpu f).cart = s.cart := rfl
@[simp] theorem onPpu_ctlIn0 (s : State) (f : Ppu → Ppu) : (s.onPpu f).ctlIn0 = s.ctlIn0 := rfl
@[simp] theorem onPpu_ctlIn1 (s : State) (f : Ppu → Ppu) : (s.onPpu f).ctlIn1 = s.ctlIn1 := rfl

end Sys2Proof.Machine
end

