-- ==== Sys2Proof/Laws/Bus.lean ====
section
/-! SUPPORT. What one access through the Bus can do: what a read returns and leaves, what a write stores and leaves. -/

namespace Sys2Proof.Machine

/-! ### The cartridge -/

theorem cpuMapRead_low (m : Mapper) (c : Cart) (ram : Mem 8) {a : Addr} (h : a.toNat < 0x6000) :
    m.cpuMapRead c ram a = .declined := by
  have h1 : ¬ 0x8000 ≤ a.toNat := by omega
  have h2 : ¬ 0x6000 ≤ a.toNat := by omega
  simp [Mapper.cpuMapRead, h1, h2]

theorem cpuMapRead_high (m : Mapper) (c : Cart) (ram : Mem 8) {a : Addr} (h : 0x8000 ≤ a.toNat) :
    m.cpuMapRead c ram a = .mapped (m.prgOffset c a % c.prgSize) := by simp [Mapper.cpuMapRead, h]

theorem cartCpuRead_low (s : State) {a : Addr} (h : a.toNat < 0x6000) : cartCpuRead s a = none := by
  simp [cartCpuRead, cpuMapRead_low _ _ _ h]

theorem cartCpuRead_high (s : State) {a : Addr} (h : 0x8000 ≤ a.toNat) :
    cartCpuRead s a = some (s.cart.prg.read (s.mapper.prgOffset s.cart a % s.cart.prgSize)) := by
  simp [cartCpuRead, cpuMapRead_high _ _ _ h]

theorem cartCpuRead_ram (s : State) {a : Addr} (h : 0x6000 ≤ a.toNat) (h' : a.toNat < 0x8000) :
    cartCpuRead s a = if s.mapper.hasRam then some (s.mapperRam.read (a.toNat % 0x2000)) else none := by
  have h1 : ¬ 0x8000 ≤ a.toNat := by omega
  by_cases hr : s.mapper.hasRam = true <;> simp [cartCpuRead, Mapper.cpuMapRead, h, h1, hr]

theorem cartCpuWrite_low (s : State) {a : Addr} (d : Byte) (h : a.toNat < 0x6000) : cartCpuWrite s a d = none := by
  have h1 : ¬ 0x8000 ≤ a.toNat := by omega
  have h2 : ¬ 0x6000 ≤ a.toNat := by omega
  simp [cartCpuWrite, h1, h2]

/-- A PPU read moves at most the latches, which no CPU-side read or query looks at. -/
@[simp] theorem afterPpuRead_prgOffset (m : Mapper) (c c' : Cart) (a : PpuAddr) (b : Addr) :
    (m.afterPpuRead c a).prgOffset c' b = m.prgOffset c' b := by
  cases m <;> simp only [Mapper.afterPpuRead]
  rename_i r
  split
  · simp only [LatchRegs.touch]
    split_ifs <;> rfl
  · rfl

@[simp] theorem afterPpuRead_hasRam (m : Mapper) (c : Cart) (a : PpuAddr) :
    (m.afterPpuRead c a).hasRam = m.hasRam := by
  cases m <;> simp only [Mapper.afterPpuRead]
  split <;> rfl

@[simp] theorem afterPpuRead_cpuMapRead (m : Mapper) (c c' : Cart) (a : PpuAddr) (ram : Mem 8) (b : Addr) :
    (m.afterPpuRead c a).cpuMapRead c' ram b = m.cpuMapRead c' ram b := by simp [Mapper.cpuMapRead]

@[simp] theorem afterPpuRead_mirroringMode (m : Mapper) (c c' : Cart) (a : PpuAddr) :
    (m.afterPpuRead c a).mirroringMode c' = m.mirroringMode c' := by
  cases m <;> simp only [Mapper.afterPpuRead]
  rename_i r
  split
  · simp only [LatchRegs.touch]
    split_ifs <;> rfl
  · rfl

@[simp] theorem afterPpuRead_irqPending (m : Mapper) (c : Cart) (a : PpuAddr) :
    (m.afterPpuRead c a).irqPending = m.irqPending := by
  cases m <;> simp only [Mapper.afterPpuRead]
  split <;> rfl

theorem afterPpuRead_ok {m : Mapper} (h : m.Ok) (c : Cart) (a : PpuAddr) : (m.afterPpuRead c a).Ok := by
  cases m <;> simp only [Mapper.afterPpuRead] <;> try exact h
  split <;> trivial

/-! ### Reads -/

/-- What a read may change behind a device port: PPU registers (no PPU memory), controller shifters, Mapper latches. -/
structure ReadLeft (s t : State) : Prop where
  cpu : t.cpu = s.cpu
  ram : t.ram = s.ram
  dma : t.dma = s.dma
  tick : t.tick = s.tick
  mapperRam : t.mapperRam = s.mapperRam
  cart : t.cart = s.cart
  ctlIn0 : t.ctlIn0 = s.ctlIn0
  ctlIn1 : t.ctlIn1 = s.ctlIn1
  mapper : ∀ c' ram b, t.mapper.cpuMapRead c' ram b = s.mapper.cpuMapRead c' ram b
  hasRam : t.mapper.hasRam = s.mapper.hasRam
  mapperOk : s.mapper.Ok → t.mapper.Ok
  irq : t.mapper.irqPending = s.mapper.irqPending
  ppu : ∃ v w vb oa rb, t.ppu = { s.ppu with v := v, w := w, vblank := vb, oamaddr := oa, rdbuf := rb }

theorem ReadLeft.refl (s : State) : ReadLeft s s :=
  ⟨rfl, rfl, rfl, rfl, rfl, rfl, rfl, rfl, fun _ _ _ => rfl, rfl, id, rfl, _, _, _, _, _, rfl⟩

theorem ReadLeft.trans {s t u : State} (h : ReadLeft s t) (h' : ReadLeft t u) : ReadLeft s u := by
  obtain ⟨v, w, vb, oa, rb, hp⟩ := h.ppu
  obtain ⟨v', w', vb', oa', rb', hp'⟩ := h'.ppu
  exact ⟨h'.cpu.trans h.cpu, h'.ram.trans h.ram, h'.dma.trans h.dma, h'.tick.trans h.tick,
    h'.mapperRam.trans h.mapperRam, h'.cart.trans h.cart, h'.ctlIn0.trans h.ctlIn0, h'.ctlIn1.trans h.ctlIn1,
    fun c r b => (h'.mapper c r b).trans (h.mapper c r b), h'.hasRam.trans h.hasRam, fun m => h'.mapperOk (h.mapperOk m),
    h'.irq.trans h.irq, v', w', vb', oa', rb', by rw [hp', hp]⟩

theorem ppuPortRead_left (s : State) (n : Nat) : ReadLeft s (ppuPortRead s n).2 := by
  unfold ppuPortRead
  split
  · exact ⟨rfl, rfl, rfl, rfl, rfl, rfl, rfl, rfl, fun _ _ _ => rfl, rfl, id, rfl, _, _, _, _, _, rfl⟩
  · exact ⟨rfl, rfl, rfl, rfl, rfl, rfl, rfl, rfl, fun _ _ _ => rfl, rfl, id, rfl, _, _, _, _, _, rfl⟩
  · refine ⟨rfl, rfl, rfl, rfl, rfl, rfl, rfl, rfl, fun c r b => ?_, ?_, fun h => ?_, ?_, _, _, _, _, _, rfl⟩
    · simp [dataRead, ppuRead, ppuTouch]
    · simp [dataRead, ppuRead, ppuTouch]
    · exact afterPpuRead_ok h _ _
    · simp [dataRead, ppuRead, ppuTouch]
  · exact ReadLeft.refl s

theorem ctlRead_left (s : State) (n : Nat) : ReadLeft s (ctlRead s n).2 := by
  unfold ctlRead
  split <;>
    exact ⟨rfl, rfl, rfl, rfl, rfl, rfl, rfl, rfl, fun _ _ _ => rfl, rfl, id, rfl, _, _, _, _, _, rfl⟩

/-- Everything a Bus read can change. -/
theorem busRead_left (s : State) (a : Addr) : ReadLeft s (busRead s a).2 := by
  unfold busRead
  split
  · exact ReadLeft.refl s
  · split_ifs
    · exact ReadLeft.refl s
    · exact ppuPortRead_left _ _
    · exact ctlRead_left _ _
    · exact ReadLeft.refl s

@[simp] theorem busRead_cpu (s : State) (a : Addr) : (busRead s a).2.cpu = s.cpu := (busRead_left s a).cpu
@[simp] theorem busRead_ram (s : State) (a : Addr) : (busRead s a).2.ram = s.ram := (busRead_left s a).ram
@[simp] theorem busRead_dma (s : State) (a : Addr) : (busRead s a).2.dma = s.dma := (busRead_left s a).dma
@[simp] theorem busRead_tick (s : State) (a : Addr) : (busRead s a).2.tick = s.tick := (busRead_left s a).tick
@[simp] theorem busRead_mapperRam (s : State) (a : Addr) : (busRead s a).2.mapperRam = s.mapperRam :=
  (busRead_left s a).mapperRam
@[simp] theorem busRead_cart (s : State) (a : Addr) : (busRead s a).2.cart = s.cart := (busRead_left s a).cart

/-- A read outside the device ports changes nothing (R77). -/
theorem busRead_pure (s : State) {a : Addr} (h : isDevice a = false) : (busRead s a).2 = s := by
  simp only [isDevice, Bool.or_eq_false_iff, decide_eq_false_iff_not] at h
  unfold busRead
  split
  · rfl
  · split_ifs
    · rfl
    · omega
    · exact absurd ‹_› h.2
    · rfl

/-- A read of console RAM (R83). -/
theorem busRead_low (s : State) {a : Addr} (h : a.toNat ≤ 0x1FFF) : busRead s a = (s.ram.read (a.toNat % 0x800), s) := by
  simp [busRead, cartCpuRead_low s (a := a) (by omega), h]

/-- A read at or above 0x8000 is the cartridge's (R421). -/
theorem busRead_high (s : State) {a : Addr} (h : 0x8000 ≤ a.toNat) :
    busRead s a = (s.cart.prg.read (s.mapper.prgOffset s.cart a % s.cart.prgSize), s) := by
  simp [busRead, cartCpuRead_high s h]

/-- What a read changes, no query of another address sees, but for the device ports. -/
theorem ReadLeft.busPeek {s t : State} (h : ReadLeft s t) {a : Addr} (ha : isDevice a = false) :
    busPeek t a = Machine.busPeek s a := by
  simp only [isDevice, Bool.or_eq_false_iff, decide_eq_false_iff_not, not_or] at ha
  simp only [Machine.busPeek, cartCpuRead, h.mapper, h.cart, h.mapperRam, h.ram]
  split
  · rfl
  · split_ifs
    · rfl
    · omega
    · exact absurd ‹_› ha.2.1
    · exact absurd ‹_› ha.2.2
    · rfl

theorem ReadLeft.sameMemory {s t : State} (h : ReadLeft s t) : SameMemory s t := by
  obtain ⟨v, w, vb, oa, rb, hp⟩ := h.ppu
  exact ⟨fun a ha => h.busPeek ha, h.ram, h.mapperRam, h.cart, by rw [hp], by rw [hp], by rw [hp], by rw [hp], by rw [hp]⟩

/-! ### Writes -/

@[simp] theorem ppuWrite_cpu (s : State) (a : PpuAddr) (d : Byte) : (ppuWrite s a d).cpu = s.cpu := by
  unfold ppuWrite; split_ifs <;> rfl

/-- A PPU write changes PPU memories only. -/
theorem ppuWrite_onlyPpu (s : State) (a : PpuAddr) (d : Byte) : ∃ q, ppuWrite s a d = { s with ppu := q } := by
  unfold ppuWrite; split_ifs <;> exact ⟨_, rfl⟩

/-- A port write changes the PPU only. -/
theorem ppuPortWrite_onlyPpu (s : State) (n : Nat) (d : Byte) : ∃ q, ppuPortWrite s n d = { s with ppu := q } := by
  unfold ppuPortWrite
  split
  · exact ⟨_, rfl⟩
  · exact ⟨_, rfl⟩
  · exact ⟨_, rfl⟩
  · exact ⟨_, rfl⟩
  · unfold scrollWrite; split <;> exact ⟨_, rfl⟩
  · unfold addressWrite; split <;> exact ⟨_, rfl⟩
  · obtain ⟨q, hq⟩ := ppuWrite_onlyPpu s s.ppu.dataAddr d
    exact ⟨{ q with v := s.ppu.v + s.ppu.increment }, by simp [dataWrite, hq]⟩
  · exact ⟨s.ppu, rfl⟩

/-- Everything a Bus write can do, by the address written: one device or one memory takes it. -/
theorem busWrite_cases (s : State) (a : Addr) (d : Byte) :
    (a.toNat ≤ 0x1FFF ∧ busWrite s a d = { s with ram := s.ram.write (a.toNat % 0x800) d }) ∨
    ((0x2000 ≤ a.toNat ∧ a.toNat ≤ 0x3FFF) ∧ busWrite s a d = ppuPortWrite s (a.toNat % 8) d ∧
      ∃ q, busWrite s a d = { s with ppu := q }) ∨
    (a = 0x4014#16 ∧ busWrite s a d = dmaArm s d) ∨
    (a = 0x4016#16 ∧ busWrite s a d = { s with ctlShift0 := s.ctlIn0 }) ∨
    (a = 0x4017#16 ∧ busWrite s a d = { s with ctlShift1 := s.ctlIn1 }) ∨
    ((0x6000 ≤ a.toNat ∧ a.toNat < 0x8000) ∧ s.mapper.hasRam = true ∧
      busWrite s a d = { s with mapperRam := s.mapperRam.write (a.toNat % 0x2000) d }) ∨
    (0x8000 ≤ a.toNat ∧ busWrite s a d = { s with mapper := s.mapper.writeReg a d }) ∨
    ((0x4000 ≤ a.toNat ∧ a.toNat < 0x8000) ∧ a ≠ 0x4014#16 ∧ a ≠ 0x4016#16 ∧ a ≠ 0x4017#16 ∧
      (0x6000 ≤ a.toNat → s.mapper.hasRam = false) ∧ busWrite s a d = s) := by
  have e14 : (a.toNat = 0x4014) = (a = 0x4014#16) := by rw [← BitVec.toNat_inj]; rfl
  have e16 : (a.toNat = 0x4016) = (a = 0x4016#16) := by rw [← BitVec.toNat_inj]; rfl
  have e17 : (a.toNat = 0x4017) = (a = 0x4017#16) := by rw [← BitVec.toNat_inj]; rfl
  by_cases h8 : 0x8000 ≤ a.toNat
  · exact .inr <| .inr <| .inr <| .inr <| .inr <| .inr <| .inl ⟨h8, by simp [busWrite, cartCpuWrite, h8]⟩
  by_cases h6 : 0x6000 ≤ a.toNat ∧ s.mapper.hasRam = true
  · exact .inr <| .inr <| .inr <| .inr <| .inr <| .inl
      ⟨⟨h6.1, by omega⟩, h6.2, by simp [busWrite, cartCpuWrite, h8, h6.1, h6.2]⟩
  have hc : cartCpuWrite s a d = none := by
    by_cases hr : s.mapper.hasRam = true
    · have : ¬ 0x6000 ≤ a.toNat := fun h => h6 ⟨h, hr⟩
      simp [cartCpuWrite, h8, this]
    · simp [cartCpuWrite, h8, hr]
  by_cases h1 : a.toNat ≤ 0x1FFF
  · exact .inl ⟨h1, by simp [busWrite, hc, h1]⟩
  by_cases h2 : a.toNat ≤ 0x3FFF
  · have e : busWrite s a d = ppuPortWrite s (a.toNat % 8) d := by simp [busWrite, hc, h1, h2]
    exact .inr <| .inl ⟨⟨by omega, h2⟩, e, e ▸ ppuPortWrite_onlyPpu s _ d⟩
  by_cases h14 : a = 0x4014#16
  · exact .inr <| .inr <| .inl ⟨h14, by subst h14; simp [busWrite, hc]⟩
  by_cases h16 : a = 0x4016#16
  · exact .inr <| .inr <| .inr <| .inl ⟨h16, by subst h16; simp [busWrite, hc, ctlWrite]⟩
  by_cases h17 : a = 0x4017#16
  · exact .inr <| .inr <| .inr <| .inr <| .inl ⟨h17, by subst h17; simp [busWrite, hc, ctlWrite]⟩
  refine .inr <| .inr <| .inr <| .inr <| .inr <| .inr <| .inr ⟨⟨by omega, by omega⟩, h14, h16, h17, fun h => ?_, ?_⟩
  · by_contra hr
    exact h6 ⟨h, by simpa using hr⟩
  · simp only [busWrite, hc, h1, h2, e14, e16, e17, h14, h16, h17, if_false, or_self]

/-- What no Bus write changes. -/
structure WriteLeft (s t : State) : Prop where
  cpu : t.cpu = s.cpu
  cart : t.cart = s.cart
  tick : t.tick = s.tick
  ctlIn0 : t.ctlIn0 = s.ctlIn0
  ctlIn1 : t.ctlIn1 = s.ctlIn1

theorem busWrite_left (s : State) (a : Addr) (d : Byte) : WriteLeft s (busWrite s a d) := by
  rcases busWrite_cases s a d with ⟨_, h⟩ | ⟨_, _, q, h⟩ | ⟨_, h⟩ | ⟨_, h⟩ | ⟨_, h⟩ | ⟨_, _, h⟩ | ⟨_, h⟩ | ⟨_, _, _, _, _, h⟩ <;>
    rw [h] <;> exact ⟨rfl, rfl, rfl, rfl, rfl⟩

@[simp] theorem busWrite_cpu (s : State) (a : Addr) (d : Byte) : (busWrite s a d).cpu = s.cpu := (busWrite_left s a d).cpu
@[simp] theorem busWrite_cart (s : State) (a : Addr) (d : Byte) : (busWrite s a d).cart = s.cart :=
  (busWrite_left s a d).cart
@[simp] theorem busWrite_tick (s : State) (a : Addr) (d : Byte) : (busWrite s a d).tick = s.tick :=
  (busWrite_left s a d).tick

/-- A write to console RAM (R83). -/
theorem busWrite_low (s : State) {a : Addr} (d : Byte) (h : a.toNat ≤ 0x1FFF) :
    busWrite s a d = { s with ram := s.ram.write (a.toNat % 0x800) d } := by
  simp [busWrite, cartCpuWrite_low s (a := a) d (by omega), h]

/-! ### Changes that a query does not see -/

theorem busPeek_setCpu (s : State) (c : Cpu) (a : Addr) : busPeek { s with cpu := c } a = busPeek s a := rfl

theorem SameOutsideCpu.busPeek {s t : State} (h : SameOutsideCpu s t) (a : Addr) : Machine.busPeek t a = Machine.busPeek s a := by
  rw [h]; rfl

theorem SameOutsideCpu.refl (s : State) : SameOutsideCpu s s := rfl

theorem SameOutsideCpu.trans {s t u : State} (h : SameOutsideCpu s t) (h' : SameOutsideCpu t u) : SameOutsideCpu s u := by
  unfold SameOutsideCpu at *
  rw [h', h]

theorem SameOutsideCpu.sameMemory {s t : State} (h : SameOutsideCpu s t) : SameMemory s t := by
  rw [h]; exact ⟨fun _ _ => rfl, rfl, rfl, rfl, rfl, rfl, rfl, rfl, rfl⟩

theorem SameMemory.trans {s t u : State} (h : SameMemory s t) (h' : SameMemory t u) : SameMemory s u :=
  ⟨fun a ha => (h'.bytes a ha).trans (h.bytes a ha), h'.ram.trans h.ram, h'.mapperRam.trans h.mapperRam,
    h'.cart.trans h.cart, h'.nt.trans h.nt, h'.pal.trans h.pal, h'.chrRam.trans h.chrRam, h'.oam.trans h.oam,
    h'.fb.trans h.fb⟩

end Sys2Proof.Machine
end

