-- ==== Sys2Proof/Laws/Store.lean ====
section
/-! SUPPORT. The accesses do not depend on the CPU's registers; what one store did, as a whole; pushes and pulls. -/

namespace Sys2Proof.Machine

/-! ### Accesses commute with CPU register changes -/

theorem busRead_setCpu (s : State) (c : Cpu) (a : Addr) :
    busRead { s with cpu := c } a = ((busRead s a).1, { (busRead s a).2 with cpu := c }) := by
  have e : cartCpuRead { s with cpu := c } a = cartCpuRead s a := rfl
  unfold busRead
  rw [e]
  split
  · rfl
  · split_ifs
    · rfl
    · simp only [ppuPortRead]; split <;> rfl
    · simp only [ctlRead]; split_ifs <;> rfl
    · rfl

theorem busWrite_setCpu (s : State) (c : Cpu) (a : Addr) (v : Byte) :
    busWrite { s with cpu := c } a v = { busWrite s a v with cpu := c } := by
  have e : cartCpuWrite { s with cpu := c } a v = (cartCpuWrite s a v).map (fun u => { u with cpu := c }) := by
    simp only [cartCpuWrite]
    split_ifs <;> rfl
  unfold busWrite
  rw [e]
  cases cartCpuWrite s a v with
  | some u => rfl
  | none =>
    simp only [Option.map_none]
    split_ifs
    · rfl
    · simp only [ppuPortWrite]
      split
      · rfl
      · rfl
      · rfl
      · rfl
      · unfold scrollWrite; split_ifs <;> rfl
      · unfold addressWrite; split_ifs <;> rfl
      · simp only [dataWrite, ppuWrite]; split_ifs <;> rfl
      · rfl
    · rfl
    · simp only [ctlWrite]; split_ifs <;> rfl
    · rfl

theorem busRead_same {s t : State} (h : SameOutsideCpu s t) (a : Addr) :
    (busRead t a).1 = (busRead s a).1 ∧ SameOutsideCpu (busRead s a).2 (busRead t a).2 := by
  rw [h, busRead_setCpu]; exact ⟨rfl, rfl⟩

theorem busWrite_same {s t : State} (h : SameOutsideCpu s t) (a : Addr) (v : Byte) :
    SameOutsideCpu (busWrite s a v) (busWrite t a v) := by
  have e : busWrite t a v = { busWrite s a v with cpu := t.cpu } := by
    rw [show t = { s with cpu := t.cpu } from h, busWrite_setCpu]
  rw [e]
  rfl

/-! ### One store -/

/-- A register write of the Mapper moves no RAM in or out. -/
@[simp] theorem writeReg_hasRam (m : Mapper) (a : Addr) (d : Byte) : (m.writeReg a d).hasRam = m.hasRam := by
  cases m <;> rfl

/-- What a PPU change shows outside the device ports: nothing. -/
theorem busPeek_setPpu (s : State) (q : Ppu) {a : Addr} (ha : isDevice a = false) :
    busPeek { s with ppu := q } a = busPeek s a := by
  simp only [isDevice, Bool.or_eq_false_iff, decide_eq_false_iff_not] at ha
  have e : cartCpuRead { s with ppu := q } a = cartCpuRead s a := rfl
  simp only [busPeek, e]
  split
  · rfl
  · split_ifs
    · rfl
    · omega
    · rfl
    · rfl
    · rfl

theorem busPeek_setDma (s : State) (m : Dma) (a : Addr) : busPeek { s with dma := m } a = busPeek s a := rfl

theorem busPeek_setCtl (s : State) (x y : Byte) {a : Addr} (ha : isDevice a = false) :
    busPeek { s with ctlShift0 := x, ctlShift1 := y } a = busPeek s a := by
  simp only [isDevice, Bool.or_eq_false_iff, decide_eq_false_iff_not, not_or] at ha
  have e : cartCpuRead { s with ctlShift0 := x, ctlShift1 := y } a = cartCpuRead s a := rfl
  simp only [busPeek, e]
  split
  · rfl
  · split_ifs
    · rfl
    · rfl
    · exact absurd ‹_› ha.2.1
    · exact absurd ‹_› ha.2.2
    · rfl

theorem busPeek_low (s : State) {a : Addr} (h : a.toNat ≤ 0x1FFF) : busPeek s a = s.ram.read (a.toNat % 0x800) := by
  simp [busPeek, cartCpuRead_low s (a := a) (by omega), h]

/-- A change of console RAM shows only below 0x2000. -/
theorem busPeek_setRam_above (s : State) (m : Mem 8) {a : Addr} (h : ¬ a.toNat ≤ 0x1FFF) :
    busPeek { s with ram := m } a = busPeek s a := by
  have e : cartCpuRead { s with ram := m } a = cartCpuRead s a := rfl
  simp only [busPeek, e, h, if_false]
  rfl

/-- The whole effect of one Bus write on canonical memories. -/
theorem stored_busWrite (s : State) (ea : Addr) (v : Byte) (hr : s.ram.wf = true) (hm : s.mapperRam.wf = true) :
    Stored s (busWrite s ea v) ea v := by
  have hl := busWrite_left s ea v
  refine ⟨SameOutsideCpu.refl _, ?_, ?_, hl.cart, ?_, ?_, ?_, ?_, ?_, hl.tick, hl.ctlIn0, hl.ctlIn1⟩
  · intro hw
    simp only [isWritable, Bool.or_eq_true, decide_eq_true_eq, Bool.and_eq_true] at hw
    rcases hw with hw | ⟨hw, hram⟩
    · rw [busWrite_low s v hw, busPeek_low _ hw]
      exact Mem.read_write_same hr _ _
    · have h8 : ¬ 0x8000 ≤ ea.toNat := by omega
      have e : busWrite s ea v = { s with mapperRam := s.mapperRam.write (ea.toNat % 0x2000) v } := by
        simp [busWrite, cartCpuWrite, h8, hw.1, hram]
      rw [e]
      simp only [busPeek, cartCpuRead, Mapper.cpuMapRead, h8, if_false, hw.1, hram, decide_true, Bool.and_self, if_true]
      exact Mem.read_write_same hm _ _
  · intro a ha hcell hlt
    rcases busWrite_cases s ea v with ⟨h1, h⟩ | ⟨_, _, q, h⟩ | ⟨_, h⟩ | ⟨_, h⟩ | ⟨_, h⟩ | ⟨hb, _, h⟩ | ⟨h8, h⟩ | ⟨_, _, _, _, _, h⟩
    · rw [h]
      by_cases h2 : a.toNat ≤ 0x1FFF
      · rw [busPeek_low _ h2, busPeek_low _ h2]
        simp only [sameCell, h1, h2, and_self, if_true, decide_eq_false_iff_not] at hcell
        exact Mem.read_write_other hr _ (fun e => hcell e.symm)
      · exact busPeek_setRam_above s _ h2
    · rw [h]; exact busPeek_setPpu s q ha
    · rw [h]; rfl
    · rw [h]; exact busPeek_setCtl s _ s.ctlShift1 ha
    · rw [h]; exact busPeek_setCtl s s.ctlShift0 _ ha
    · rw [h]
      have hne : ¬ (ea.toNat ≤ 0x1FFF ∧ a.toNat ≤ 0x1FFF) := by omega
      simp only [sameCell, hne, if_false, decide_eq_false_iff_not, ← BitVec.toNat_inj] at hcell
      by_cases ha6 : 0x6000 ≤ a.toNat ∧ a.toNat < 0x8000
      · have h8 : ¬ 0x8000 ≤ a.toNat := by omega
        have e : cartCpuRead { s with mapperRam := s.mapperRam.write (ea.toNat % 0x2000) v } a = cartCpuRead s a := by
          rw [cartCpuRead_ram _ ha6.1 ha6.2, cartCpuRead_ram _ ha6.1 ha6.2]
          simp only [Mem.read_write_other hm v (show a.toNat % 0x2000 ≠ ea.toNat % 0x2000 by omega)]
        simp only [busPeek, e]
        rfl
      · have e : cartCpuRead { s with mapperRam := s.mapperRam.write (ea.toNat % 0x2000) v } a = cartCpuRead s a := by
          by_cases h8 : 0x8000 ≤ a.toNat
          · rw [cartCpuRead_high _ h8, cartCpuRead_high _ h8]
          · rw [cartCpuRead_low _ (by omega), cartCpuRead_low _ (by omega)]
        simp only [busPeek, e]
        rfl
    · rw [h]
      have ha8 : a.toNat < 0x8000 := by omega
      have e : cartCpuRead { s with mapper := s.mapper.writeReg ea v } a = cartCpuRead s a := by
        by_cases ha6 : 0x6000 ≤ a.toNat
        · rw [cartCpuRead_ram _ ha6 ha8, cartCpuRead_ram _ ha6 ha8]; simp
        · rw [cartCpuRead_low _ (by omega), cartCpuRead_low _ (by omega)]
      simp only [isDevice, Bool.or_eq_false_iff, decide_eq_false_iff_not] at ha
      simp only [busPeek, e]
      split
      · rfl
      · split_ifs
        · rfl
        · omega
        · rfl
        · rfl
        · rfl
    · rw [h]
  all_goals intro hc
  all_goals
    rcases busWrite_cases s ea v with ⟨h1, h⟩ | ⟨hp, _, q, h⟩ | ⟨h1, h⟩ | ⟨h1, h⟩ | ⟨h1, h⟩ | ⟨hb, _, h⟩ | ⟨h8, h⟩ | ⟨_, _, _, _, _, h⟩ <;>
      rw [h] <;> first | rfl | exact absurd h1 hc | exact absurd hp hc | (exfalso; omega)

theorem Stored.thenCpu {s t u : State} {ea : Addr} {v : Byte} (h : Stored s t ea v) (h' : SameOutsideCpu t u) :
    Stored s u ea v := by
  refine ⟨h.write.trans h', fun hw => (h'.busPeek ea).trans (h.holds hw),
    fun a ha hc hl => (h'.busPeek a).trans (h.bytes a ha hc hl), ?_, fun x => ?_, fun x => ?_, fun x => ?_, fun x => ?_,
    fun x => ?_, ?_, ?_⟩ <;> rw [h']
  · exact h.cart
  · exact h.mapper x
  · exact h.ppu x
  · exact h.dma x
  · exact h.ctlShift0 x
  · exact h.ctlShift1 x
  · exact h.tick
  · exact h.ctlIn

/-- One Bus write by a CPU whose registers have changed since `s`. -/
theorem stored_of_same {s s' u : State} {ea : Addr} {v : Byte} (hs : SameOutsideCpu s s')
    (hu : SameOutsideCpu (busWrite s' ea v) u) (hr : s.ram.wf = true) (hm : s.mapperRam.wf = true) : Stored s u ea v :=
  (stored_busWrite s ea v hr hm).thenCpu ((busWrite_same hs ea v).trans hu)

/-! ### The stack -/

theorem stackAddr_toNat (sp : Byte) : (stackAddr sp).toNat = stackCell sp := by
  simp only [stackAddr, cat, stackCell, BitVec.toNat_append]
  have := sp.isLt
  rw [Nat.shiftLeft_eq, Nat.or_comm]
  have e : (1#8 : Byte).toNat * 2 ^ 8 = 2 ^ 8 * 1 := by decide
  rw [e, Nat.or_comm, ← Nat.two_pow_add_eq_or_of_lt this]

theorem stackCell_lt (sp : Byte) : 0x100 ≤ stackCell sp ∧ stackCell sp < 0x200 := by
  have := sp.isLt
  simp only [stackCell]; omega

theorem stackAddr_low (sp : Byte) : (stackAddr sp).toNat ≤ 0x1FFF := by
  have := stackCell_lt sp
  rw [stackAddr_toNat]; omega

theorem stackCell_mod (sp : Byte) : (stackAddr sp).toNat % 0x800 = stackCell sp := by
  have := stackCell_lt sp
  rw [stackAddr_toNat]; omega

theorem stackCell_inj {x y : Byte} : stackCell x = stackCell y ↔ x = y := by
  simp only [stackCell, ← BitVec.toNat_inj]; omega

/-- A push: one cell of page 1 written, `S` one lower (R12, R23). -/
theorem push8_eq (s : State) (v : Byte) :
    push8 s v = { s with cpu := { s.cpu with sp := s.cpu.sp - 1#8 }, ram := s.ram.write (stackCell s.cpu.sp) v } := by
  rw [push8, busWrite_low s v (stackAddr_low _), stackCell_mod]; rfl

/-- A pull: `S` one higher, then the cell of page 1 at the new `S` (R12, R23). -/
theorem pop8_eq (s : State) :
    pop8 s = (s.ram.read (stackCell (s.cpu.sp + 1#8)), { s with cpu := { s.cpu with sp := s.cpu.sp + 1#8 } }) := by
  rw [pop8, busRead_low _ (stackAddr_low _), stackCell_mod]; rfl

theorem push16_eq (s : State) (w : Addr) :
    push16 s w = { s with cpu := { s.cpu with sp := s.cpu.sp - 1#8 - 1#8 },
                          ram := (s.ram.write (stackCell s.cpu.sp) (hi w)).write (stackCell (s.cpu.sp - 1#8)) (lo w) } := by
  rw [push16, push8_eq, push8_eq]

theorem pop16_eq (s : State) :
    pop16 s = (cat (s.ram.read (stackCell (s.cpu.sp + 1#8 + 1#8))) (s.ram.read (stackCell (s.cpu.sp + 1#8))),
      { s with cpu := { s.cpu with sp := s.cpu.sp + 1#8 + 1#8 } }) := by
  rw [pop16, pop8_eq, pop8_eq]

/-- The word the CPU reads at a vector, from the cartridge (R79, R421): no access changes anything. -/
theorem read16_high (s : State) {a : Addr} (h : 0x8000 ≤ a.toNat) (h' : a.toNat < 0xFFFF) :
    read16 s a = (cat (busPeek s (a + 1#16)) (busPeek s a), s) := by
  have e1 : (a + 1#16).toNat = a.toNat + 1 := by
    rw [BitVec.toNat_add]; simp; omega
  have h1 : 0x8000 ≤ (a + 1#16).toNat := by omega
  rw [read16, busRead_high _ h, busRead_high _ h1]
  simp only [busPeek, cartCpuRead_high _ h, cartCpuRead_high _ h1]

end Sys2Proof.Machine
end

