-- ==== Sys2Proof/Laws/Exec.lean ====
section
/-! SUPPORT. The dispatch as a function of mnemonic, operand and base cycles; what resolving and reading an operand can do. -/

namespace Sys2Proof.Machine

open Sys2Proof

/-- The operation of each mnemonic. -/
def operate : Mnemonic → Operand → Nat → State → State
  | .ADC => opAdc
  | .AHX => opAhx
  | .ALR => opAlr
  | .ANC => opAnc
  | .AND => opAnd
  | .ARR => opArr
  | .ASL => opAsl
  | .AXS => opAxs
  | .BCC => opBcc
  | .BCS => opBcs
  | .BEQ => opBeq
  | .BIT => opBit
  | .BMI => opBmi
  | .BNE => opBne
  | .BPL => opBpl
  | .BRK => opBrk
  | .BVC => opBvc
  | .BVS => opBvs
  | .CLC => opClc
  | .CLD => opCld
  | .CLI => opCli
  | .CLV => opClv
  | .CMP => opCmp
  | .CPX => opCpx
  | .CPY => opCpy
  | .DCP => opDcp
  | .DEC => opDec
  | .DEX => opDex
  | .DEY => opDey
  | .EOR => opEor
  | .INC => opInc
  | .INX => opInx
  | .INY => opIny
  | .ISC => opIsc
  | .JMP => opJmp
  | .JSR => opJsr
  | .KIL => opKil
  | .LAS => opLas
  | .LAX => opLax
  | .LDA => opLda
  | .LDX => opLdx
  | .LDY => opLdy
  | .LSR => opLsr
  | .LXA => opLxa
  | .NOP => opNop
  | .ORA => opOra
  | .PHA => opPha
  | .PHP => opPhp
  | .PLA => opPla
  | .PLP => opPlp
  | .RLA => opRla
  | .ROL => opRol
  | .ROR => opRor
  | .RRA => opRra
  | .RTI => opRti
  | .RTS => opRts
  | .SAX => opSax
  | .SBC => opSbc
  | .SEC => opSec
  | .SED => opSed
  | .SEI => opSei
  | .SHX => opShx
  | .SHY => opShy
  | .SLO => opSlo
  | .SRE => opSre
  | .STA => opSta
  | .STX => opStx
  | .STY => opSty
  | .TAS => opTas
  | .TAX => opTax
  | .TAY => opTay
  | .TSX => opTsx
  | .TXA => opTxa
  | .TXS => opTxs
  | .TYA => opTya
  | .XAA => opXaa

/-- Every instruction answers a next state: its mnemonic's operation on its operand, with its row's base count. -/
theorem exec_eq (i : Instr) (s : State) : exec i s = .next (operate i.mnem i.operand i.baseCycles s) := by
  cases i <;> rfl

/-- The operation of an instruction, by its mnemonic. -/
theorem exec_of_mnem {i : Instr} {m : Mnemonic} (h : i.mnem = m) (s : State) :
    exec i s = .next (operate m i.operand i.baseCycles s) := h ▸ exec_eq i s

/-- The modes an instruction can be in, by its mnemonic. -/
theorem Instr.mode_mem (i : Instr) : i.mode ∈ i.mnem.modes := by
  have h : decide (i.mode ∈ i.mnem.modes) = true := by cases i <;> rfl
  exact of_decide_eq_true h

/-- Every instruction is well formed. -/
theorem Instr.wf_all (i : Instr) : i.wf = true := by
  have h' : i.operand.value < 2 ^ (8 * i.mode.operandBytes) := by
    simp only [Instr.mode]
    cases i.operand <;> simp [Operand.value, Operand.mode, Mode.operandBytes] <;> exact BitVec.isLt _
  simp [Instr.wf, Source.wf, Instr.source, Instr.mode_mem i, h']

/-! ### Resolving an operand -/

theorem zext_low (b : Byte) : (zext b).toNat = b.toNat := by
  simp only [zext, BitVec.toNat_setWidth]
  exact Nat.mod_eq_of_lt (lt_of_lt_of_le b.isLt (by decide))

theorem busRead_zext (s : State) (b : Byte) : busRead s (zext b) = (s.ram.read b.toNat, s) := by
  have hb := b.isLt
  have h : (zext b).toNat ≤ 0x1FFF := by rw [zext_low]; omega
  rw [busRead_low s h, zext_low, Nat.mod_eq_of_lt (by omega)]

/-- A pointer in the zero page is read from console RAM (R140, R141). -/
theorem zeroPagePointer_eq (s : State) (p : Byte) :
    zeroPagePointer s p = (cat (s.ram.read (p + 1#8).toNat) (s.ram.read p.toNat), s) := by
  simp [zeroPagePointer, busRead_zext]

/-- Only the indirect jump's pointer can lie at a device: every other resolution leaves the machine as it is. -/
theorem resolve_state (s : State) {o : Operand} (h : o.mode ≠ .IND) : (resolve s o).2 = s := by
  cases o <;> first | exact absurd rfl h | simp [resolve, zeroPagePointer_eq]

theorem resolve_left (s : State) (o : Operand) : ReadLeft s (resolve s o).2 := by
  cases o
  case ind a => exact (busRead_left s a).trans (busRead_left _ _)
  all_goals
    rw [resolve_state s (by simp [Operand.mode])]
    exact ReadLeft.refl s

/-- The place of an operand does not depend on the cycle count. -/
theorem resolve_setCyc (s : State) (n : Nat) {o : Operand} (h : o.mode ≠ .IND) :
    (resolve (s.setCyc n) o).1 = (resolve s o).1 := by
  cases o <;> first | exact absurd rfl h | simp [resolve, zeroPagePointer_eq]

theorem readOperand_left (s : State) (r : Resolved) : ReadLeft s (readOperand s r).2 := by
  unfold readOperand
  split
  · exact ReadLeft.refl s
  · exact ReadLeft.refl s
  · exact busRead_left _ _

@[simp] theorem readOperand_cpu (s : State) (r : Resolved) : (readOperand s r).2.cpu = s.cpu := (readOperand_left s r).cpu

/-- An operand off the device ports is read without a change. -/
theorem readOperand_pure (s : State) {r : Resolved} (h : r.onDevice = false) : (readOperand s r).2 = s := by
  unfold readOperand
  split
  · rfl
  · rfl
  · rename_i ea heq
    simp only [Resolved.onDevice, heq] at h
    exact busRead_pure s h

theorem sameOutsideCpu_setCyc (s : State) (n : Nat) : SameOutsideCpu s (s.setCyc n) := rfl

/-- A read by an instruction's frame: the operand's value and the machine it leaves, from the state before. -/
theorem readOperand_same {s t : State} (h : SameOutsideCpu s t) (ha : t.cpu.a = s.cpu.a) (r : Resolved) :
    (readOperand t r).1 = (readOperand s r).1 ∧ SameOutsideCpu (readOperand s r).2 (readOperand t r).2 := by
  unfold readOperand
  split
  · exact ⟨ha, h⟩
  · exact ⟨rfl, h⟩
  · exact busRead_same h _

end Sys2Proof.Machine
end

