-- ==== Sys2Proof/Laws/Flags.lean ====
section
/-! SUPPORT. What each flag computation does, flag by flag. -/

namespace Sys2Proof.Machine

open Sys2Proof

/-! ### One flag -/

@[simp] theorem getFlag_setFlag (p : Byte) (f g : Flag) (b : Bool) :
    getFlag (setFlag p f b) g = if g = f then b else getFlag p g := by
  cases b <;> cases f <;> cases g <;> simp [getFlag, setFlag, withBit, Flag.bit]

/-! ### Frames -/

theorem FlagsKept.refl (fs : List Flag) (p : Byte) : FlagsKept fs p p := fun _ _ => rfl

theorem FlagsKept.trans {fs : List Flag} {p q r : Byte} (h : FlagsKept fs p q) (h' : FlagsKept fs q r) :
    FlagsKept fs p r := fun f hf => (h' f hf).trans (h f hf)

theorem FlagsKept.mono {fs gs : List Flag} {p q : Byte} (h : FlagsKept fs p q) (hs : fs ⊆ gs) : FlagsKept gs p q :=
  fun f hf => h f fun hm => hf (hs hm)

theorem flagsKept_setFlag (p : Byte) (f : Flag) (b : Bool) : FlagsKept [f] p (setFlag p f b) := by
  intro g hg
  simp only [List.mem_singleton] at hg
  simp [hg]

theorem flagsKept_zn (p v : Byte) : FlagsKept [.Z, .N] p (znFlags p v) := by
  intro g hg
  simp only [List.mem_cons, List.not_mem_nil, or_false, not_or] at hg
  simp [znFlags, hg.1, hg.2]

theorem flagsKept_add (p a m : Byte) : FlagsKept [.C, .Z, .V, .N] p (addFlags p a m) := by
  intro g hg
  simp only [List.mem_cons, List.not_mem_nil, or_false, not_or] at hg
  simp [addFlags, znFlags, hg]

theorem flagsKept_compare (p r m : Byte) : FlagsKept [.C, .Z, .N] p (compareFlags p r m) := by
  intro g hg
  simp only [List.mem_cons, List.not_mem_nil, or_false, not_or] at hg
  simp [compareFlags, hg]

theorem flagsKept_bit (p a m : Byte) : FlagsKept [.Z, .V, .N] p (bitFlags p a m) := by
  intro g hg
  simp only [List.mem_cons, List.not_mem_nil, or_false, not_or] at hg
  simp [bitFlags, hg]

theorem flagsKept_shift (p : Byte) (r : Shifted) : FlagsKept [.C, .Z, .N] p (shiftFlags p r) := by
  intro g hg
  simp only [List.mem_cons, List.not_mem_nil, or_false, not_or] at hg
  simp [shiftFlags, znFlags, hg]

theorem flagsKept_anc (p v : Byte) : FlagsKept [.C, .Z, .N] p (ancFlags p v) := by
  intro g hg
  simp only [List.mem_cons, List.not_mem_nil, or_false, not_or] at hg
  simp [ancFlags, znFlags, hg]

theorem flagsKept_arr (p v : Byte) : FlagsKept [.C, .Z, .V, .N] p (arrFlags p v) := by
  intro g hg
  simp only [List.mem_cons, List.not_mem_nil, or_false, not_or] at hg
  simp [arrFlags, znFlags, hg]

theorem flagsKept_axs (p t m : Byte) : FlagsKept [.C, .Z, .N] p (axsFlags p t m) := by
  intro g hg
  simp only [List.mem_cons, List.not_mem_nil, or_false, not_or] at hg
  simp [axsFlags, znFlags, hg]

/-! ### Z and N -/

theorem znOf_zn (p v : Byte) : ZnOf v (znFlags p v) := by simp [ZnOf, znFlags]

theorem znOf_shift (p : Byte) (r : Shifted) : ZnOf r.val (shiftFlags p r) := znOf_zn _ _

theorem znOf_anc (p v : Byte) : ZnOf v (ancFlags p v) := by simp [ZnOf, ancFlags, znFlags]

theorem znOf_arr (p v : Byte) : ZnOf v (arrFlags p v) := by simp [ZnOf, arrFlags, znFlags]

theorem znOf_axs (p t m : Byte) : ZnOf (t - m) (axsFlags p t m) := znOf_zn _ _

@[simp] theorem shift_carry (p : Byte) (r : Shifted) : getFlag (shiftFlags p r) .C = r.carry := by
  simp [shiftFlags, znFlags]

@[simp] theorem anc_carry (p v : Byte) : getFlag (ancFlags p v) .C = v.getLsbD 7 := by simp [ancFlags]

@[simp] theorem arr_carry (p v : Byte) : getFlag (arrFlags p v) .C = v.getLsbD 6 := by simp [arrFlags]

@[simp] theorem arr_overflow (p v : Byte) : getFlag (arrFlags p v) .V = (v.getLsbD 6 ^^ v.getLsbD 5) := by simp [arrFlags]

@[simp] theorem axs_carry (p t m : Byte) : getFlag (axsFlags p t m) .C = decide (m.toNat ≤ t.toNat) := by
  simp [axsFlags, znFlags]

@[simp] theorem bit_zero (p a m : Byte) : getFlag (bitFlags p a m) .Z = decide (a &&& m = 0#8) := by simp [bitFlags]

@[simp] theorem bit_negative (p a m : Byte) : getFlag (bitFlags p a m) .N = m.getLsbD 7 := by simp [bitFlags]

@[simp] theorem bit_overflow (p a m : Byte) : getFlag (bitFlags p a m) .V = m.getLsbD 6 := by simp [bitFlags]

/-! ### Sums, differences, comparisons -/

theorem bit7_iff (v : Byte) : v.getLsbD 7 = true ↔ 128 ≤ v.toNat := by revert v; decide

theorem toInt_split (v : Byte) : v.toInt = if v.getLsbD 7 then (v.toNat : Int) - 256 else v.toNat := by
  have h := v.isLt
  rw [BitVec.toInt_eq_toNat_cond]
  by_cases h7 : v.getLsbD 7 = true
  · have := (bit7_iff v).1 h7
    rw [if_pos h7, if_neg (by omega)]; rfl
  · have : ¬ 128 ≤ v.toNat := fun h => h7 ((bit7_iff v).2 h)
    rw [if_neg h7, if_pos (by omega)]

theorem masked_bit7 (v : Byte) : decide (v &&& 0x80#8 ≠ 0#8) = v.getLsbD 7 := by revert v; decide

/-- `AddWithCarry` adds (R191). -/
theorem addedTo_add (p a m : Byte) :
    AddedTo a m (bitNat (getFlag p .C)) (sumByte a m (getFlag p .C)) (addFlags p a m) := by
  have ha := a.isLt
  have hm := m.isLt
  have hc : bitNat (getFlag p .C) ≤ 1 := by unfold bitNat; split <;> omega
  have hr : (sumByte a m (getFlag p .C)).toNat = (a.toNat + m.toNat + bitNat (getFlag p .C)) % 256 := by
    simp [sumByte, sumWide]
  refine ⟨hr, ?_, ?_, znOf_zn _ _⟩
  · have e : getFlag (addFlags p a m) .C = decide (0xFF < sumWide a m (getFlag p .C)) := by simp [addFlags, znFlags]
    rw [e, decide_eq_true_eq, sumWide]; omega
  · have e : getFlag (addFlags p a m) .V
        = (!(a.getLsbD 7 ^^ m.getLsbD 7) && (a.getLsbD 7 ^^ (sumByte a m (getFlag p .C)).getLsbD 7)) := by
      simp only [addFlags, znFlags, getFlag_setFlag, reduceCtorEq, if_false, if_true, masked_bit7]
      simp
    rw [e, toInt_split a, toInt_split m]
    have h7 := bit7_iff (sumByte a m (getFlag p .C))
    have h7a := bit7_iff a
    have h7m := bit7_iff m
    rw [hr] at h7
    by_cases xa : a.getLsbD 7 = true <;> by_cases xm : m.getLsbD 7 = true <;>
      by_cases xr : (sumByte a m (getFlag p .C)).getLsbD 7 = true <;>
      simp only [xa, xm, xr, true_iff, false_iff, Bool.false_eq_true, if_true, if_false, not_le] at h7 h7a h7m ⊢ <;>
      simp <;> omega

theorem not_toNat (m : Byte) : (m ^^^ 0xFF#8).toNat = 255 - m.toNat := by
  rw [show (0xFF#8 : Byte) = BitVec.allOnes 8 from rfl, BitVec.xor_allOnes, BitVec.toNat_not]

/-- `AddWithCarry` of the complement subtracts (R171, R190). -/
theorem subtractedFrom_add (p a m : Byte) :
    SubtractedFrom a m (1 - bitNat (getFlag p .C)) (sumByte a (m ^^^ 0xFF#8) (getFlag p .C)) (addFlags p a (m ^^^ 0xFF#8)) := by
  have h := addedTo_add p a (m ^^^ 0xFF#8)
  have hm := m.isLt
  have hc : bitNat (getFlag p .C) ≤ 1 := by unfold bitNat; split <;> omega
  have hn := not_toNat m
  have hi : (m ^^^ 0xFF#8).toInt = -m.toInt - 1 := by
    rw [toInt_split, toInt_split, hn]
    have e : (m ^^^ 0xFF#8).getLsbD 7 = !m.getLsbD 7 := by simp
    rw [e]
    cases m.getLsbD 7 <;> simp <;> omega
  refine ⟨?_, ?_, ?_, h.2.2.2⟩
  · rw [h.1, hn]; omega
  · rw [h.2.1, hn]; omega
  · rw [h.2.2.1, hi]; omega

theorem compared_compare (p r m : Byte) : Compared r m (compareFlags p r m) := by
  have hr := r.isLt
  have hm := m.isLt
  refine ⟨by simp [compareFlags], by simp [compareFlags], ?_⟩
  have e : (r - m).toNat = (r.toNat + 256 - m.toNat) % 256 := by rw [BitVec.toNat_sub]; omega
  rw [← e, ← bit7_iff]
  simp [compareFlags]

/-! ### Shift functions in integer arithmetic (R200) -/

theorem asl_eq (m : Byte) (c : Bool) : asl m c = ⟨BitVec.ofNat 8 (2 * m.toNat), decide (128 ≤ m.toNat)⟩ := by
  revert m c; decide

theorem lsr_eq (m : Byte) (c : Bool) : lsr m c = ⟨BitVec.ofNat 8 (m.toNat / 2), decide (m.toNat % 2 = 1)⟩ := by
  revert m c; decide

theorem rol_eq (m : Byte) (c : Bool) : rol m c = ⟨BitVec.ofNat 8 (2 * m.toNat + bitNat c), decide (128 ≤ m.toNat)⟩ := by
  revert m c; decide

theorem ror_eq (m : Byte) (c : Bool) :
    ror m c = ⟨BitVec.ofNat 8 (m.toNat / 2 + 128 * bitNat c), decide (m.toNat % 2 = 1)⟩ := by
  revert m c; decide

theorem pulledStatus_pushedByInterrupt {p : Byte} (h : getFlag p .U = true) (h' : getFlag p .B = false) :
    pulledStatus (pushedByInterrupt p) = p := by
  revert p; decide

theorem pulledStatus_pushedByInstr {p : Byte} (h : getFlag p .U = true) (h' : getFlag p .B = false) :
    pulledStatus (pushedByInstr p) = p := by
  revert p; decide

end Sys2Proof.Machine
end

