-- ==== Sys2Proof/Laws/Complete.lean ====
section
/-! SUPPORT. How an instruction's frame completes, once for each shape: reading, registers only, storing, modifying. -/

namespace Sys2Proof.Machine

open Sys2Proof

/-- Only JMP has a form in mode IND. -/
theorem Instr.mode_ne_ind {i : Instr} (h : i.mnem ≠ .JMP) : i.mode ≠ .IND := by
  have hm := Instr.mode_mem i
  intro e
  rw [e] at hm
  revert h hm
  cases i.mnem <;> decide

theorem operandAt_snd {i : Instr} (h : i.mode ≠ .IND) (s : State) : (operandAt i s).2 = s.setCyc i.baseCycles :=
  resolve_state _ h

/-- An instruction that reads its operand and then changes CPU registers completes so. -/
theorem completesReading_of {i : Instr} {s : State} {extra : Bool} {upd : State → Byte → State}
    {regs : Byte → Bool → Cpu → Prop}
    (h : exec i s = .next (runInstr i.baseCycles extra i.operand (fun u r => upd (readOperand u r).2 (readOperand u r).1) s))
    (hm : i.mode ≠ .IND) (hu : ∀ u m, SameOutsideCpu u (upd u m))
    (hr : ∀ u m x, u.cpu = { s.cpu with cyc := i.baseCycles } →
      regs m x { (upd u m).cpu with cyc := (upd u m).cpu.cyc + bitNat (x && extra) }) :
    CompletesReading i s regs := by
  have e2 := operandAt_snd hm s
  refine ⟨_, h, ?_, ?_, ?_, ?_⟩
  · exact hr _ _ _ (by rw [show (resolve (s.setCyc i.baseCycles) i.operand).2 = s.setCyc i.baseCycles from e2]; simp; rfl)
  · exact (hu _ _).trans (sameOutsideCpu_setCyc _ _)
  · have e : SameMemory s (readOperand (operandAt i s).2 (operandAt i s).1).2 := by
      rw [e2]
      exact (sameOutsideCpu_setCyc s _).sameMemory.trans (readOperand_left _ _).sameMemory
    exact e.trans (SameOutsideCpu.sameMemory ((hu _ _).trans (sameOutsideCpu_setCyc _ _)))
  · intro hd
    have e : (readOperand (operandAt i s).2 (operandAt i s).1).2 = s.setCyc i.baseCycles := by
      rw [readOperand_pure _ hd, e2]
    exact (sameOutsideCpu_setCyc s i.baseCycles).trans (e ▸ (hu _ _).trans (sameOutsideCpu_setCyc _ _))

/-- An instruction that changes CPU registers only completes so. -/
theorem completesOnRegisters_of {i : Instr} {s t : State} {regs : Cpu → Prop} (h : exec i s = .next t)
    (ht : SameOutsideCpu s t) (hr : regs t.cpu) : CompletesOnRegisters i s regs := ⟨t, h, hr, ht, ht.sameMemory⟩

/-- The operand's place in memory, in a mode that has one. -/
theorem operandAt_mem {i : Instr} (h : i.mode ≠ .IMP) (h' : i.mode ≠ .IMM) (s : State) :
    ∃ ea, (operandAt i s).1.loc = .mem ea := by
  simp only [operandAt, Instr.mode] at *
  cases ho : i.operand <;> rw [ho] at h h' <;> first | exact absurd rfl h | exact absurd rfl h' | exact ⟨_, rfl⟩

theorem Inv.ramWf {s : State} (h : s.Inv) : s.ram.wf = true := h.ram.1

theorem Inv.mapperRamWf {s : State} (h : s.Inv) : s.mapperRam.wf = true := h.mapperRam.1

/-- An instruction that stores one byte to its operand's place completes so. -/
theorem completesStoring_of {i : Instr} {s : State} (hi : s.Inv) {v : State → Byte} {regs : Cpu → Prop}
    (h : exec i s = .next (runInstr i.baseCycles false i.operand (fun u r => writeOperand u r (v u)) s))
    (hm : i.mode ≠ .IND) (h1 : i.mode ≠ .IMP) (h2 : i.mode ≠ .IMM) (hr : regs { s.cpu with cyc := i.baseCycles }) :
    CompletesStoring i s (v (s.setCyc i.baseCycles)) regs := by
  obtain ⟨ea, he⟩ := operandAt_mem h1 h2 s
  have e2 : (resolve (s.setCyc i.baseCycles) i.operand).2 = s.setCyc i.baseCycles := operandAt_snd hm s
  have e1 : (resolve (s.setCyc i.baseCycles) i.operand).1.loc = .mem ea := he
  have et : runInstr i.baseCycles false i.operand (fun u r => writeOperand u r (v u)) s
      = (busWrite (s.setCyc i.baseCycles) ea (v (s.setCyc i.baseCycles))).addCyc 0 := by
    simp [runInstr, writeOperand, e1, e2, bitNat]
  refine ⟨_, ea, h, he, ?_, ?_⟩
  · rw [et]
    exact stored_of_same (sameOutsideCpu_setCyc s _) (sameOutsideCpu_setCyc _ _) hi.ram.1 hi.mapperRam.1
  · rw [et]
    simpa [State.addCyc, State.setCyc] using hr

/-- An instruction that reads one byte of memory, stores a byte to the same place and then changes CPU registers
completes so. -/
theorem completesModifying_of {i : Instr} {s : State} (hi : s.Inv) {f : Byte → Byte} {body : State → Resolved → State}
    {regs : Byte → Cpu → Prop}
    (h : exec i s = .next (runInstr i.baseCycles false i.operand body s))
    (hm : i.mode ≠ .IND) (h1 : i.mode ≠ .IMP) (h2 : i.mode ≠ .IMM)
    (hb : ∀ u r ea, r.loc = .mem ea → u.cpu = { s.cpu with cyc := i.baseCycles } →
      SameOutsideCpu (busWrite (busRead u ea).2 ea (f (busRead u ea).1)) (body u r) ∧
        regs (busRead u ea).1 (body u r).cpu) :
    CompletesModifying i s f regs := by
  obtain ⟨ea, he⟩ := operandAt_mem h1 h2 s
  have e2 : (resolve (s.setCyc i.baseCycles) i.operand).2 = s.setCyc i.baseCycles := operandAt_snd hm s
  obtain ⟨hw, hr⟩ := hb (s.setCyc i.baseCycles) (operandAt i s).1 ea he (by simp [State.setCyc])
  have hs := busRead_same (sameOutsideCpu_setCyc s i.baseCycles) ea
  have et : runInstr i.baseCycles false i.operand body s
      = (body (s.setCyc i.baseCycles) (operandAt i s).1).addCyc 0 := by
    simp only [runInstr, operandAt, e2, bitNat, Bool.and_false]
    rfl
  have hl := busRead_left s ea
  refine ⟨_, ea, h, he, ?_, ?_⟩
  · rw [et]
    rw [hs.1] at hw
    exact stored_of_same hs.2 (hw.trans (sameOutsideCpu_setCyc _ _)) (hl.ram ▸ hi.ram.1) (hl.mapperRam ▸ hi.mapperRam.1)
  · rw [et]
    rw [hs.1] at hr
    simpa [State.addCyc, State.setCyc] using hr

/-- Pushed bytes, on canonical console RAM (R23). -/
theorem pushed_one {s t : State} (hr : s.ram.wf = true) {sp v : Byte}
    (ht : t = { s with cpu := t.cpu, ram := s.ram.write (stackCell sp) v }) : Pushed s t [(stackCell sp, v)] := by
  have e : t.ram = s.ram.write (stackCell sp) v := by rw [ht]
  refine ⟨by rw [e]; exact ht, ?_, ?_⟩
  · simp [e, Mem.read_write_same hr]
  · intro a ha
    rw [ht]
    by_cases h : a.toNat ≤ 0x1FFF
    · rw [busPeek_low _ h, busPeek_low _ h]
      exact Mem.read_write_other hr _ (ha h _ (List.mem_singleton_self _))
    · exact busPeek_setRam_above { s with cpu := t.cpu } _ h

theorem Pushed.append {s t u : State} {xs ys : List (Nat × Byte)} (h : Pushed s t xs) (h' : Pushed t u ys)
    (hd : ∀ x ∈ xs, ∀ y ∈ ys, y.1 ≠ x.1) (hw : ∀ x ∈ xs, x.1 < 0x800) : Pushed s u (xs ++ ys) := by
  refine ⟨?_, ?_, ?_⟩
  · have h1 := h.onlyRam
    have h2 := h'.onlyRam
    rw [h2, h1]
  · intro c hc
    rcases List.mem_append.1 hc with hc | hc
    · have hb := h'.bytes (BitVec.ofNat 16 c.1)
      have hlt := hw c hc
      have e : (BitVec.ofNat 16 c.1).toNat = c.1 := by simp; omega
      rw [e] at hb
      have hb := hb (fun _ y hy => by rw [Nat.mod_eq_of_lt hlt]; exact fun e => hd c hc y hy e.symm)
      rw [busPeek_low _ (by omega), busPeek_low _ (by omega), e, Nat.mod_eq_of_lt hlt] at hb
      rw [hb]
      exact h.holds c hc
    · exact h'.holds c hc
  · intro a ha
    rw [h'.bytes a (fun h y hy => ha h y (List.mem_append_right _ hy)),
      h.bytes a (fun h x hx => ha h x (List.mem_append_left _ hx))]

theorem stackCell_lt_size (sp : Byte) : stackCell sp < 0x800 := by have := stackCell_lt sp; omega

end Sys2Proof.Machine
end

