-- ==== Sys2Proof/Laws/Ppu.lean ====
section
/-! SUPPORT. What each stage of a dot can change: the PPU's port registers and memories stay, the invariant stays, and of the
cartridge only the latches and the scanline counter move. -/

namespace Sys2Proof.Machine

@[simp] theorem onlyIf_true (f : State → State) (s : State) : onlyIf true f s = f s := rfl
@[simp] theorem onlyIf_false (f : State → State) (s : State) : onlyIf false f s = s := rfl

/-- What a stage of a dot leaves alone in the PPU: everything but the pipeline, the beam, the flags and the framebuffer. -/
structure PpuKept (p q : Ppu) : Prop where
  ctrl : q.ctrl = p.ctrl
  mask : q.mask = p.mask
  w : q.w = p.w
  t : q.t = p.t
  fx : q.fx = p.fx
  oamaddr : q.oamaddr = p.oamaddr
  rdbuf : q.rdbuf = p.rdbuf
  nt : q.nt = p.nt
  pal : q.pal = p.pal
  chrRam : q.chrRam = p.chrRam
  oam : q.oam = p.oam

theorem PpuKept.refl (p : Ppu) : PpuKept p p := ⟨rfl, rfl, rfl, rfl, rfl, rfl, rfl, rfl, rfl, rfl, rfl⟩

theorem PpuKept.trans {p q r : Ppu} (h : PpuKept p q) (h' : PpuKept q r) : PpuKept p r :=
  ⟨h'.ctrl.trans h.ctrl, h'.mask.trans h.mask, h'.w.trans h.w, h'.t.trans h.t, h'.fx.trans h.fx,
    h'.oamaddr.trans h.oamaddr, h'.rdbuf.trans h.rdbuf, h'.nt.trans h.nt, h'.pal.trans h.pal, h'.chrRam.trans h.chrRam,
    h'.oam.trans h.oam⟩

/-- What a stage of a dot can change in the machine. -/
structure DotLeft (s t : State) : Prop where
  only : t = { s with ppu := t.ppu, mapper := t.mapper }
  kept : PpuKept s.ppu t.ppu
  maps : ∀ c ram a, t.mapper.cpuMapRead c ram a = s.mapper.cpuMapRead c ram a
  others : (∀ r, s.mapper ≠ .scanline r) → (∀ r, s.mapper ≠ .latch r) → t.mapper = s.mapper
  mapperOk : s.mapper.Ok → t.mapper.Ok

theorem DotLeft.refl (s : State) : DotLeft s s :=
  ⟨rfl, PpuKept.refl _, fun _ _ _ => rfl, fun _ _ => rfl, id⟩

theorem DotLeft.trans {s t u : State} (h : DotLeft s t) (h' : DotLeft t u) : DotLeft s u where
  only := by rw [h'.only, h.only]
  kept := h.kept.trans h'.kept
  maps c r a := (h'.maps c r a).trans (h.maps c r a)
  others a b := by
    have e := h.others a b
    rw [← e] at a b
    exact (h'.others a b).trans e
  mapperOk m := h'.mapperOk (h.mapperOk m)

theorem onPpu_left (s : State) {f : Ppu → Ppu} (h : PpuKept s.ppu (f s.ppu)) : DotLeft s (s.onPpu f) :=
  ⟨rfl, h, fun _ _ _ => rfl, fun _ _ => rfl, id⟩

theorem onlyIf_left (c : Bool) {f : State → State} (s : State) (h : DotLeft s (f s)) : DotLeft s (onlyIf c f s) := by
  cases c
  · exact DotLeft.refl s
  · exact h

theorem ppuRead_left (s : State) (a : PpuAddr) : DotLeft s (ppuRead s a).2 where
  only := rfl
  kept := PpuKept.refl _
  maps c r b := by simp [ppuRead, ppuTouch]
  others _ h := by
    show s.mapper.afterPpuRead s.cart a = s.mapper
    unfold Mapper.afterPpuRead
    cases e : s.mapper <;> first | rfl | exact absurd e (h _)
  mapperOk h := afterPpuRead_ok h _ _

/-- A PPU read, then a change of the pipeline. -/
theorem ppuRead_then_left (s : State) (a : PpuAddr) {q : Ppu} (h : PpuKept s.ppu q) :
    DotLeft s { (ppuRead s a).2 with ppu := q } :=
  let r := ppuRead_left s a
  ⟨rfl, h, r.maps, r.others, r.mapperOk⟩

theorem fetchNametableByte_left (s : State) : DotLeft s (fetchNametableByte s) :=
  ppuRead_then_left s _ (PpuKept.refl s.ppu |>.trans ⟨rfl, rfl, rfl, rfl, rfl, rfl, rfl, rfl, rfl, rfl, rfl⟩)

theorem fetchAttribute_left (s : State) : DotLeft s (fetchAttribute s) :=
  ppuRead_then_left s _ (PpuKept.refl s.ppu |>.trans ⟨rfl, rfl, rfl, rfl, rfl, rfl, rfl, rfl, rfl, rfl, rfl⟩)

theorem fetchPatternLow_left (s : State) : DotLeft s (fetchPatternLow s) :=
  ppuRead_then_left s _ (PpuKept.refl s.ppu |>.trans ⟨rfl, rfl, rfl, rfl, rfl, rfl, rfl, rfl, rfl, rfl, rfl⟩)

theorem fetchPatternHigh_left (s : State) : DotLeft s (fetchPatternHigh s) :=
  ppuRead_then_left s _ (PpuKept.refl s.ppu |>.trans ⟨rfl, rfl, rfl, rfl, rfl, rfl, rfl, rfl, rfl, rfl, rfl⟩)

theorem scanlineHook_left (s : State) : DotLeft s (scanlineHook s) where
  only := rfl
  kept := PpuKept.refl _
  maps c r a := by
    simp only [scanlineHook]
    cases s.mapper <;> rfl
  others h _ := by
    simp only [scanlineHook]
    cases e : s.mapper <;> first | rfl | exact absurd e (h _)
  mapperOk h := by
    simp only [scanlineHook]
    revert h
    cases s.mapper <;> exact id

/-! ### The pure stages -/

theorem updateShifters_kept (q : Ppu) (d : Nat) : PpuKept q (updateShifters q d) := by
  have h : PpuKept q (shiftBackground q) := by
    unfold shiftBackground; split <;> exact ⟨rfl, rfl, rfl, rfl, rfl, rfl, rfl, rfl, rfl, rfl, rfl⟩
  refine h.trans ?_
  simp only [updateShifters]
  split <;> exact ⟨rfl, rfl, rfl, rfl, rfl, rfl, rfl, rfl, rfl, rfl, rfl⟩

theorem clearFlags_kept (q : Ppu) : PpuKept q (clearFlags q) := ⟨rfl, rfl, rfl, rfl, rfl, rfl, rfl, rfl, rfl, rfl, rfl⟩

theorem loadBgShifters_kept (q : Ppu) : PpuKept q (loadBgShifters q) :=
  ⟨rfl, rfl, rfl, rfl, rfl, rfl, rfl, rfl, rfl, rfl, rfl⟩

theorem incrementCoarseX_kept (q : Ppu) : PpuKept q (incrementCoarseX q) := by
  unfold incrementCoarseX; split <;> exact ⟨rfl, rfl, rfl, rfl, rfl, rfl, rfl, rfl, rfl, rfl, rfl⟩

theorem incrementY_kept (q : Ppu) : PpuKept q (incrementY q) := by
  unfold incrementY; split <;> exact ⟨rfl, rfl, rfl, rfl, rfl, rfl, rfl, rfl, rfl, rfl, rfl⟩

theorem transferX_kept (q : Ppu) : PpuKept q (transferX q) := by
  unfold transferX; split <;> exact ⟨rfl, rfl, rfl, rfl, rfl, rfl, rfl, rfl, rfl, rfl, rfl⟩

theorem transferY_kept (q : Ppu) : PpuKept q (transferY q) := by
  unfold transferY; split <;> exact ⟨rfl, rfl, rfl, rfl, rfl, rfl, rfl, rfl, rfl, rfl, rfl⟩

theorem evaluateEntry_kept (l : Int) (q : Ppu) (n : Nat) : PpuKept q (evaluateEntry l q n) := by
  unfold evaluateEntry
  split_ifs <;> exact ⟨rfl, rfl, rfl, rfl, rfl, rfl, rfl, rfl, rfl, rfl, rfl⟩

theorem evaluateEntries_kept (l : Int) (ns : List Nat) (q : Ppu) : PpuKept q (ns.foldl (evaluateEntry l) q) := by
  induction ns generalizing q with
  | nil => exact PpuKept.refl q
  | cons n ns ih => exact (evaluateEntry_kept l q n).trans (ih _)

theorem spriteEvaluate_kept (l : Int) (q : Ppu) : PpuKept q (spriteEvaluate l q) :=
  PpuKept.trans (q := clearSecondary q) ⟨rfl, rfl, rfl, rfl, rfl, rfl, rfl, rfl, rfl, rfl, rfl⟩ (evaluateEntries_kept l _ _)

theorem composite_kept (q : Ppu) (l d : Nat) : PpuKept q (composite q l d) :=
  ⟨rfl, rfl, rfl, rfl, rfl, rfl, rfl, rfl, rfl, rfl, rfl⟩

theorem setVblank_kept (q : Ppu) : PpuKept q (setVblank q) := ⟨rfl, rfl, rfl, rfl, rfl, rfl, rfl, rfl, rfl, rfl, rfl⟩

theorem advance_kept (q : Ppu) : PpuKept q (advance q) := by
  unfold advance
  split_ifs <;> exact ⟨rfl, rfl, rfl, rfl, rfl, rfl, rfl, rfl, rfl, rfl, rfl⟩

/-! ### The composed stages -/

theorem fetchSprite_left (l : Int) (s : State) (i : Nat) : DotLeft s (fetchSprite l s i) := by
  let a := spriteAddr s.ppu l (s.ppu.sprites.getD i Sprite.empty)
  have h := ppuRead_left s a
  refine h.trans (ppuRead_then_left (ppuRead s a).2 (a + 8#14) ?_)
  exact ⟨rfl, rfl, rfl, rfl, rfl, rfl, rfl, rfl, rfl, rfl, rfl⟩

theorem spriteFetch_left (l : Int) (s : State) : DotLeft s (spriteFetch l s) := by
  unfold spriteFetch
  generalize List.range s.ppu.secCount = ns
  induction ns generalizing s with
  | nil => exact DotLeft.refl s
  | cons n ns ih => exact (fetchSprite_left l s n).trans (ih _)

theorem fetchDot_left (d : Nat) (s : State) : DotLeft s (fetchDot d s) := by
  have h := onPpu_left s (f := fun q => updateShifters q d) (updateShifters_kept _ d)
  refine h.trans ?_
  unfold fetchDot
  generalize s.onPpu (fun q => updateShifters q d) = u
  unfold fetchPhase
  split
  · exact (onPpu_left u (loadBgShifters_kept _)).trans (fetchNametableByte_left _)
  · exact fetchAttribute_left u
  · exact fetchPatternLow_left u
  · exact fetchPatternHigh_left u
  · exact onPpu_left u (incrementCoarseX_kept _)
  · exact DotLeft.refl u

end Sys2Proof.Machine
end

