-- ==== Sys2Proof/Laws/Dot.lean ====
section
/-! SUPPORT. What a dot of the rendered lines runs, position by position, and its stages in integer arithmetic: the addresses
of the fetches, the shifters, the sprite slots; and the register decode and the latches of ids 4 and 9. -/

namespace Sys2Proof.Machine

/-! ### The stages by grid position (R330) -/

theorem renderDot_window {d : Nat} (l : Int) (ren : Bool) (s : State) (h : 2 ≤ d ∧ d ≤ 256 ∨ 321 ≤ d ∧ d ≤ 337) :
    renderDot l d ren s = onlyIf (decide (d = 256)) (·.onPpu incrementY) (fetchDot d s) := by
  have h1 : ¬(l = -1 ∧ d = 1) := by omega
  have h2 : inFetchWindow d = true := by simp only [inFetchWindow, Bool.or_eq_true, decide_eq_true_eq]; omega
  have h3 : d ≠ 257 := by omega
  have h4 : d ≠ 338 := by omega
  have h5 : ¬(l = -1 ∧ 280 ≤ d ∧ d ≤ 304) := by omega
  have h6 : d ≠ 340 := by omega
  have h7 : d ≠ 260 := by omega
  simp only [renderDot, h1, h2, h3, h4, h5, h6, h7, or_self, decide_false, onlyIf_true, onlyIf_false, Bool.false_and]

theorem renderDot_257 (l : Int) (ren : Bool) (s : State) : renderDot l 257 ren s =
    ((fetchDot 257 s).onPpu (fun q => transferX (loadBgShifters q))).onPpu (spriteEvaluate l) := by
  simp [renderDot, inFetchWindow, State.onPpu]

theorem renderDot_338 (l : Int) (ren : Bool) (s : State) : renderDot l 338 ren s = fetchNametableByte s := by
  simp [renderDot, inFetchWindow]

theorem renderDot_340 (l : Int) (ren : Bool) (s : State) :
    renderDot l 340 ren s = spriteFetch l (fetchNametableByte s) := by
  simp [renderDot, inFetchWindow]

theorem renderDot_other {d : Nat} (l : Int) (ren : Bool) (s : State)
    (h : ¬(2 ≤ d ∧ d ≤ 257 ∨ 321 ≤ d ∧ d ≤ 338 ∨ d = 340)) :
    renderDot l d ren s = onlyIf (decide (d = 260) && ren) scanlineHook
      (onlyIf (decide (l = -1 ∧ 280 ≤ d ∧ d ≤ 304)) (·.onPpu transferY)
        (onlyIf (decide (l = -1 ∧ d = 1)) (·.onPpu clearFlags) s)) := by
  have h2 : inFetchWindow d = false := by simp only [inFetchWindow, Bool.or_eq_false_iff, decide_eq_false_iff_not]; omega
  have h3 : d ≠ 257 := by omega
  have h4 : d ≠ 338 := by omega
  have h6 : d ≠ 340 := by omega
  have h7 : d ≠ 256 := by omega
  simp only [renderDot, h2, h3, h4, h6, h7, or_self, decide_false, onlyIf_false]

/-! ### The background's addresses and shifters (R346 to R350) -/

/-- The nametable fetch reads `tileAt`. -/
theorem tileAddr_eq (q : Ppu) : 0x2000#14 ||| (q.v.setWidth 14 &&& 0x0FFF#14) = q.tileAt := by
  have h : 0x2000#14 &&& (q.v.setWidth 14 &&& 0x0FFF#14) = 0#14 := by rw [BitVec.and_comm, BitVec.and_assoc]; simp
  have low : (q.v.setWidth 14 &&& 0x0FFF#14).toNat = q.v.toNat % 0x1000 := by
    have := Nat.and_two_pow_sub_one_eq_mod (q.v.toNat % 2 ^ 14) 12
    norm_num at this
    simp [BitVec.toNat_and, this]
  rw [← BitVec.add_eq_or_of_and_eq_zero _ _ h]
  apply BitVec.eq_of_toNat_eq
  rw [BitVec.toNat_add, low]
  simp [Ppu.tileAt]

/-- The attribute fetch reads `attributeAt`. -/
theorem attributeAddr_eq (q : Ppu) : attributeAddr q.v = q.attributeAt := by
  unfold attributeAddr Ppu.attributeAt nametableX nametableY coarseX coarseY
  have hv := q.v.isLt
  generalize q.v = v at *
  have h1 : 0x23C0#14 &&& (v.extractLsb' 11 1).setWidth 14 <<< 11 = 0#14 := by ext i hi; interval_cases i <;> simp
  have h2 : (0x23C0#14 ||| (v.extractLsb' 11 1).setWidth 14 <<< 11) &&& (v.extractLsb' 10 1).setWidth 14 <<< 10 = 0#14 := by
    ext i hi; interval_cases i <;> simp
  have h3 : (0x23C0#14 ||| (v.extractLsb' 11 1).setWidth 14 <<< 11 ||| (v.extractLsb' 10 1).setWidth 14 <<< 10) &&&
      ((v.extractLsb' 5 5) >>> 2).setWidth 14 <<< 3 = 0#14 := by ext i hi; interval_cases i <;> simp
  have h4 : (0x23C0#14 ||| (v.extractLsb' 11 1).setWidth 14 <<< 11 ||| (v.extractLsb' 10 1).setWidth 14 <<< 10 |||
      ((v.extractLsb' 5 5) >>> 2).setWidth 14 <<< 3) &&& ((v.extractLsb' 0 5) >>> 2).setWidth 14 = 0#14 := by
    ext i hi; interval_cases i <;> simp
  rw [← BitVec.add_eq_or_of_and_eq_zero _ _ h4, ← BitVec.add_eq_or_of_and_eq_zero _ _ h3,
    ← BitVec.add_eq_or_of_and_eq_zero _ _ h2, ← BitVec.add_eq_or_of_and_eq_zero _ _ h1]
  apply BitVec.eq_of_toNat_eq
  have x : v.toNat / 0x400 % 4 * 0x400 = v.toNat / 2048 % 2 * 2048 + v.toNat / 1024 % 2 * 1024 := by omega
  have y : v.toNat / 0x80 % 8 = v.toNat / 32 % 32 / 4 := by omega
  have z : v.toNat / 4 % 8 = v.toNat % 32 / 4 := by omega
  have y' : v.toNat / 32 % 32 % 16384 = v.toNat / 32 % 32 := by omega
  have z' : v.toNat % 32 % 16384 = v.toNat % 32 := by omega
  simp [Nat.shiftLeft_eq, Nat.shiftRight_eq_div_pow, x, y, z, y', z', Nat.add_assoc]

/-- The pattern fetches read `patternAt` and 8 further on. -/
theorem patternAddr_eq (q : Ppu) : patternAddr q = q.patternAt := by
  unfold patternAddr Ppu.patternAt Ppu.patternBackground fineY
  have hn := q.nxId.isLt
  have hv := q.v.isLt
  have h1 : q.nxId.setWidth 14 <<< 4 &&& (q.v.extractLsb' 12 3).setWidth 14 = 0#14 := by
    ext i hi
    interval_cases i <;> simp
  have h2 : (BitVec.ofBool (q.ctrl.getLsbD 4)).setWidth 14 <<< 12 &&&
      (q.nxId.setWidth 14 <<< 4 ||| (q.v.extractLsb' 12 3).setWidth 14) = 0#14 := by
    ext i hi
    interval_cases i <;> simp
  rw [BitVec.or_assoc, ← BitVec.add_eq_or_of_and_eq_zero _ _ h2, ← BitVec.add_eq_or_of_and_eq_zero _ _ h1]
  apply BitVec.eq_of_toNat_eq
  generalize q.ctrl.getLsbD 4 = b
  cases b <;> simp [Nat.shiftLeft_eq, Nat.shiftRight_eq_div_pow] <;> omega

/-- The attribute bits are `attributeFrom`. -/
theorem attributeBits_eq (q : Ppu) (b : Byte) : attributeBits q.v b = q.attributeFrom b := by
  have h1 : (coarseY q.v).getLsbD 1 = decide (q.v.toNat / 0x40 % 2 = 1) := by
    unfold coarseY
    rw [BitVec.getLsbD_extractLsb']
    simp [BitVec.getLsbD, Nat.testBit, Nat.shiftRight_eq_div_pow, Nat.and_one_is_mod]
    by_cases h : q.v.toNat / 64 % 2 = 1 <;> simp [h] <;> omega
  have h2 : (coarseX q.v).getLsbD 1 = decide (q.v.toNat / 2 % 2 = 1) := by
    unfold coarseX
    rw [BitVec.getLsbD_extractLsb']
    simp [BitVec.getLsbD, Nat.testBit, Nat.shiftRight_eq_div_pow, Nat.and_one_is_mod]
    by_cases h : q.v.toNat / 2 % 2 = 1 <;> simp [h] <;> omega
  have a1 : q.v.toNat / 0x40 % 2 < 2 := Nat.mod_lt _ (by norm_num)
  have a2 : q.v.toNat / 2 % 2 < 2 := Nat.mod_lt _ (by norm_num)
  unfold attributeBits Ppu.attributeFrom
  rw [h1, h2]
  generalize q.v.toNat / 0x40 % 2 = x at *
  generalize q.v.toNat / 2 % 2 = y at *
  revert b
  interval_cases x <;> interval_cases y <;> decide

theorem loadLow_eq (x : BitVec 16) (b : Byte) : loadLow x b = BitVec.ofNat 16 (x.toNat / 256 * 256 + b.toNat) := by
  have h : x &&& 0xFF00#16 &&& b.setWidth 16 = 0#16 := by
    ext i hi
    interval_cases i <;> simp
  have high : x &&& 0xFF00#16 = (x >>> 8) <<< 8 := by
    ext i hi
    interval_cases i <;> simp
  unfold loadLow
  rw [← BitVec.add_eq_or_of_and_eq_zero _ _ h, high]
  apply BitVec.eq_of_toNat_eq
  simp [Nat.shiftLeft_eq, Nat.shiftRight_eq_div_pow]

/-- Loading the same byte twice, as dot 257 does. -/
@[simp] theorem loadLow_loadLow (x : BitVec 16) (b : Byte) : loadLow (loadLow x b) b = loadLow x b := by
  unfold loadLow
  ext i hi
  interval_cases i <;> simp

theorem shiftLeft_one_eq {w : Nat} (x : BitVec w) : x <<< 1 = BitVec.ofNat w (2 * x.toNat) := by
  apply BitVec.eq_of_toNat_eq
  simp [Nat.shiftLeft_eq, Nat.mul_comm]

/-- The fetch latches and the background shifters (R52). -/
structure Background where
  nxId : Byte
  nxAttr : BitVec 2
  nxLo : Byte
  nxHi : Byte
  patLo : BitVec 16
  patHi : BitVec 16
  attLo : BitVec 16
  attHi : BitVec 16

def Ppu.background (q : Ppu) : Background :=
  ⟨q.nxId, q.nxAttr, q.nxLo, q.nxHi, q.shPatLo, q.shPatHi, q.shAttLo, q.shAttHi⟩

/-- What `LoadBgShifters` does to them. -/
def Background.load (b : Background) : Background :=
  { b with patLo := loadLow b.patLo b.nxLo, patHi := loadLow b.patHi b.nxHi
           attLo := loadLow b.attLo (if b.nxAttr.getLsbD 0 then 0xFF#8 else 0x00#8)
           attHi := loadLow b.attHi (if b.nxAttr.getLsbD 1 then 0xFF#8 else 0x00#8) }

@[simp] theorem background_load (q : Ppu) : (loadBgShifters q).background = q.background.load := rfl
@[simp] theorem background_composite (q : Ppu) (l d : Nat) : (composite q l d).background = q.background := rfl
@[simp] theorem background_setVblank (q : Ppu) : (setVblank q).background = q.background := rfl
@[simp] theorem background_clearFlags (q : Ppu) : (clearFlags q).background = q.background := rfl

@[simp] theorem background_advance (q : Ppu) : (advance q).background = q.background := by
  unfold advance; split_ifs <;> rfl

@[simp] theorem background_incrementY (q : Ppu) : (incrementY q).background = q.background := by
  unfold incrementY; split_ifs <;> rfl

@[simp] theorem background_incrementCoarseX (q : Ppu) : (incrementCoarseX q).background = q.background := by
  unfold incrementCoarseX; split_ifs <;> rfl

@[simp] theorem background_transferX (q : Ppu) : (transferX q).background = q.background := by
  unfold transferX; split_ifs <;> rfl

@[simp] theorem background_transferY (q : Ppu) : (transferY q).background = q.background := by
  unfold transferY; split_ifs <;> rfl

@[simp] theorem background_spriteEvaluate (l : Int) (q : Ppu) : (spriteEvaluate l q).background = q.background := by
  have step : ∀ (ns : List Nat) (q : Ppu), (ns.foldl (evaluateEntry l) q).background = q.background := by
    intro ns
    induction ns with
    | nil => exact fun _ => rfl
    | cons n ns ih =>
      intro q
      rw [List.foldl_cons, ih]
      unfold evaluateEntry
      split_ifs <;> rfl
  exact step _ (clearSecondary q)

@[simp] theorem background_spriteFetch (l : Int) (s : State) :
    (spriteFetch l s).ppu.background = s.ppu.background := by
  unfold spriteFetch
  generalize List.range s.ppu.secCount = ns
  induction ns generalizing s with
  | nil => rfl
  | cons n ns ih => rw [List.foldl_cons, ih]; rfl

/-- Dot 257 loads twice, which is loading once. -/
theorem Background.load_load (b : Background) (x : Byte) :
    Background.load { b.load with nxId := x } = { b.load with nxId := x } := by
  obtain ⟨a, ⟨n⟩, c, e, f, g, h, i⟩ := b
  unfold Background.load
  dsimp only
  rw [loadLow_loadLow, loadLow_loadLow, loadLow_loadLow, loadLow_loadLow]

@[simp] theorem updateShifters_v (q : Ppu) (d : Nat) : (updateShifters q d).v = q.v := by
  unfold updateShifters shiftBackground; simp only; split_ifs <;> rfl

@[simp] theorem updateShifters_nxId (q : Ppu) (d : Nat) : (updateShifters q d).nxId = q.nxId := by
  unfold updateShifters shiftBackground; simp only; split_ifs <;> rfl

/-- The shifters move left by the background's own bit of Mask. -/
theorem background_updateShifters (q : Ppu) (d : Nat) : (updateShifters q d).background =
    if q.mask.getLsbD 3 then
      { q.background with patLo := BitVec.ofNat 16 (2 * q.shPatLo.toNat), patHi := BitVec.ofNat 16 (2 * q.shPatHi.toNat)
                          attLo := BitVec.ofNat 16 (2 * q.shAttLo.toNat), attHi := BitVec.ofNat 16 (2 * q.shAttHi.toNat) }
    else q.background := by
  have h : (updateShifters q d).background = (shiftBackground q).background := by
    unfold updateShifters; simp only; split_ifs <;> rfl
  rw [h]
  unfold shiftBackground Ppu.renderBackground
  split_ifs
  · simp only [Ppu.background, shiftLeft_one_eq]
  · rfl

/-- A PPU read's byte depends on the memories and on greyscale, not on the rest of the PPU. -/
theorem ppuPeek_withPpu (s : State) {q : Ppu} (h : PpuKept s.ppu q) (a : PpuAddr) :
    ppuPeek { s with ppu := q } a = ppuPeek s a := by
  unfold ppuPeek Ppu.palMask Ppu.grayscale
  simp only [h.chrRam, h.nt, h.pal, h.mask]

/-- A dot of the fetch windows: after the shift, the phase loads the shifters and fetches. -/
theorem background_fetchDot (d : Nat) (s : State) : (fetchDot d s).ppu.background =
    let b := (updateShifters s.ppu d).background
    match (d - 1) % 8 with
    | 0 => { b.load with nxId := ppuPeek s s.ppu.tileAt }
    | 2 => { b with nxAttr := s.ppu.attributeFrom (ppuPeek s s.ppu.attributeAt) }
    | 4 => { b with nxLo := ppuPeek s s.ppu.patternAt }
    | 6 => { b with nxHi := ppuPeek s (s.ppu.patternAt + 8#14) }
    | _ => b := by
  have kept := updateShifters_kept s.ppu d
  have pattern : patternAddr (updateShifters s.ppu d) = s.ppu.patternAt := by
    rw [← patternAddr_eq]
    unfold patternAddr Ppu.patternBackground
    rw [updateShifters_v, updateShifters_nxId, kept.ctrl]
  have peek : ∀ a, ppuPeek (s.onPpu (fun q => updateShifters q d)) a = ppuPeek s a := ppuPeek_withPpu s kept
  unfold fetchDot fetchPhase
  have hlt : (d - 1) % 8 < 8 := Nat.mod_lt _ (by norm_num)
  generalize (d - 1) % 8 = k at *
  interval_cases k <;> simp only
  · show ({ (updateShifters s.ppu d).background.load with
      nxId := ppuPeek (s.onPpu fun q => updateShifters q d) (0x2000#14 ||| ((updateShifters s.ppu d).v.setWidth 14 &&& 0x0FFF#14)) } :
        Background) = _
    rw [peek, updateShifters_v, tileAddr_eq]
  · rfl
  · show ({ (updateShifters s.ppu d).background with
      nxAttr := attributeBits (updateShifters s.ppu d).v
        (ppuPeek (s.onPpu fun q => updateShifters q d) (attributeAddr (updateShifters s.ppu d).v)) } : Background) = _
    rw [peek, updateShifters_v, attributeBits_eq, attributeAddr_eq]
  · rfl
  · show ({ (updateShifters s.ppu d).background with
      nxLo := ppuPeek (s.onPpu fun q => updateShifters q d) (patternAddr (updateShifters s.ppu d)) } : Background) = _
    rw [peek, pattern]
  · rfl
  · show ({ (updateShifters s.ppu d).background with
      nxHi := ppuPeek (s.onPpu fun q => updateShifters q d) (patternAddr (updateShifters s.ppu d) + 8#14) } : Background) = _
    rw [peek, pattern]
  · exact background_incrementCoarseX _

/-! ### The sprite slots (R350, R356) -/

theorem mapIdx_same {α : Type} (l : List α) : l.mapIdx (fun _ p => p) = l := by
  apply List.ext_getElem <;> simp

/-- One more index mapped. -/
theorem set_mapIdx_lt {α : Type} (f : Nat → α → α) (l : List α) (n : Nat) (d : α) :
    (l.mapIdx fun i p => if i < n then f i p else p).set n (f n (l.getD n d)) =
      l.mapIdx fun i p => if i < n + 1 then f i p else p := by
  apply List.ext_getElem
  · simp
  · intro i h1 h2
    have h3 : i < l.length := by simpa using h2
    rw [List.getElem_set, List.getElem_mapIdx, List.getElem_mapIdx]
    split_ifs with a b c c
    · subst a
      simp [List.getD_eq_getElem?_getD, h3]
    all_goals first | rfl | omega

theorem tickSprites_eq (n : Nat) (l : List Sprite) :
    tickSprites n l = l.mapIdx fun i p => if i < n then p.tick else p := by
  induction l generalizing n with
  | nil => cases n <;> rfl
  | cons p l ih =>
    cases n with
    | zero => simp [tickSprites, mapIdx_same]
    | succ n => simp [tickSprites, ih]

/-- Reads move the Mapper and nothing else. -/
theorem readsDone_eq (s : State) (as : List PpuAddr) :
    readsDone s as = { s with mapper := as.foldl (fun m a => m.afterPpuRead s.cart a) s.mapper } := by
  induction as generalizing s with
  | nil => rfl
  | cons a as ih => exact ih (ppuTouch s a)

theorem readsDone_append (s : State) (as bs : List PpuAddr) :
    readsDone s (as ++ bs) = readsDone (readsDone s as) bs := List.foldl_append

/-- Slot `i` of `s` as `SpriteFetch` fills it. -/
def fetchedSprite (s : State) (i : Nat) (p : Sprite) : Sprite :=
  let u := readsDone s (s.ppu.spriteReads i)
  let plane := fun b : Byte => if p.attr.getLsbD 6 then b.reverse else b
  { p with lo := plane (ppuPeek u (s.ppu.spriteAt i))
           hi := plane (ppuPeek (ppuTouch u (s.ppu.spriteAt i)) (s.ppu.spriteAt i + 8#14)) }

/-- The first `n` turns of `SpriteFetch`. -/
theorem fetchSprites_eq (s : State) (n : Nat) :
    (List.range n).foldl (fetchSprite s.ppu.scanline) s =
      { readsDone s (s.ppu.spriteReads n) with
        ppu := { s.ppu with
          sprites := s.ppu.sprites.mapIdx fun i p => if i < n then fetchedSprite s i p else p } } := by
  induction n with
  | zero => simp [readsDone, Ppu.spriteReads, mapIdx_same]
  | succ n ih =>
    rw [List.range_succ, List.foldl_append, ih, List.foldl_cons, List.foldl_nil]
    have reads : s.ppu.spriteReads (n + 1) = s.ppu.spriteReads n ++ [s.ppu.spriteAt n, s.ppu.spriteAt n + 8#14] := by
      simp [Ppu.spriteReads, List.range_succ]
    generalize hu : readsDone s (s.ppu.spriteReads n) = u
    have hs : u.ppu = s.ppu := by rw [← hu, readsDone_eq]
    rw [reads, readsDone_append, hu]
    generalize hm : (s.ppu.sprites.mapIdx fun i p => if i < n then fetchedSprite s i p else p) = m
    have slot : m.getD n Sprite.empty = s.ppu.sprites.getD n Sprite.empty := by
      rw [← hm]
      simp [List.getD_eq_getElem?_getD, List.getElem?_mapIdx]
    have kept : PpuKept u.ppu { s.ppu with sprites := m } := by
      rw [hs]
      exact ⟨rfl, rfl, rfl, rfl, rfl, rfl, rfl, rfl, rfl, rfl, rfl⟩
    have kept' : PpuKept (ppuTouch u (s.ppu.spriteAt n)).ppu { s.ppu with sprites := m } := kept
    have lo := ppuPeek_withPpu u kept (s.ppu.spriteAt n)
    have hi := ppuPeek_withPpu (ppuTouch u (s.ppu.spriteAt n)) kept' (s.ppu.spriteAt n + 8#14)
    have same : m.set n (fetchedSprite s n (s.ppu.sprites.getD n Sprite.empty)) =
        s.ppu.sprites.mapIdx fun i p => if i < n + 1 then fetchedSprite s i p else p := by
      rw [← hm]
      exact set_mapIdx_lt (fetchedSprite s) _ _ _
    rw [← same]
    unfold fetchSprite
    simp only [slot]
    have at_ : spriteAddr { s.ppu with sprites := m } s.ppu.scanline (s.ppu.sprites.getD n Sprite.empty) = s.ppu.spriteAt n := rfl
    rw [at_]
    simp only [ppuRead]
    rw [show ppuPeek { u with ppu := { s.ppu with sprites := m } } (s.ppu.spriteAt n) = _ from lo,
      show ppuPeek (ppuTouch { u with ppu := { s.ppu with sprites := m } } (s.ppu.spriteAt n)) (s.ppu.spriteAt n + 8#14) = _ from hi]
    simp only [fetchedSprite, hu]
    rfl

/-- `SpriteFetch` as a whole: the pattern reads happen in slot order, and only the slots in use change. -/
theorem spriteFetch_eq (s : State) :
    spriteFetch s.ppu.scanline s =
      { readsDone s (s.ppu.spriteReads s.ppu.secCount) with
        ppu := { s.ppu with
          sprites := s.ppu.sprites.mapIdx fun i p => if i < s.ppu.secCount then fetchedSprite s i p else p } } :=
  fetchSprites_eq s s.ppu.secCount

/-! ### The choice among the slots (R362) -/

/-- No slot in use shows an opaque pixel. -/
theorem firstOpaque_none (l : List Sprite) (n i : Nat) (h : ∀ p ∈ l.take n, ¬(p.x = 0#8 ∧ p.px ≠ 0#2)) :
    firstOpaque n i l = SpritePix.clear := by
  induction l generalizing n i with
  | nil => cases n <;> rfl
  | cons p l ih =>
    cases n with
    | zero => rfl
    | succ n =>
      rw [firstOpaque, if_neg (h p (by simp)), ih _ _ fun p' hp => h p' (by simp [hp])]

/-- Slot `k` shows an opaque pixel and no slot before it does. -/
theorem firstOpaque_some (l : List Sprite) (n i k : Nat) (p : Sprite) (hk : k < n) (hp : l[k]? = some p)
    (hs : p.x = 0#8 ∧ p.px ≠ 0#2) (hb : ∀ j < k, ∀ p', l[j]? = some p' → ¬(p'.x = 0#8 ∧ p'.px ≠ 0#2)) :
    firstOpaque n i l =
      ⟨⟨p.px, (p.attr.setWidth 2).setWidth 3 + 4#3⟩, !p.attr.getLsbD 5, decide (i + k = 0)⟩ := by
  induction l generalizing n i k with
  | nil => simp at hp
  | cons q l ih =>
    obtain ⟨m, rfl⟩ : ∃ m, n = m + 1 := ⟨n - 1, by omega⟩
    cases k with
    | zero =>
      obtain rfl : q = p := by simpa using hp
      rw [firstOpaque, if_pos hs, Nat.add_zero]
    | succ k =>
      rw [firstOpaque, if_neg (hb 0 (by omega) q rfl),
        ih m (i + 1) k (by omega) (by simpa using hp) fun j hj p' hp' => hb (j + 1) (by omega) p' (by simpa using hp')]
      congr 3
      omega

/-! ### Ids 4 and 9 (R450, R455) -/

/-- The bits that `a & 0xE001` keeps, as `ScanlineRegs.write` reads them. -/
theorem scanlinePort (a p : Addr) (h : a &&& 0xE001#16 = p) :
    a.toNat / 0x2000 % 4 = p.toNat / 0x2000 % 4 ∧ a.toNat % 2 = p.toNat % 2 := by
  have high : a >>> 13 = p >>> 13 := by
    subst h
    ext i hi
    simp only [BitVec.getElem_ushiftRight, BitVec.getLsbD_and]
    by_cases h3 : i < 3
    · interval_cases i <;> simp
    · simp [BitVec.getLsbD_of_ge a (13 + i) (by omega)]
  have low : a.getLsbD 0 = p.getLsbD 0 := by subst h; simp
  have h1 := congrArg BitVec.toNat high
  simp only [BitVec.toNat_ushiftRight, Nat.shiftRight_eq_div_pow] at h1
  simp only [BitVec.getLsbD, Nat.testBit_zero, decide_eq_decide] at low
  omega

theorem mirroringBit_eq (d : Byte) : mirroringBit d = mirroringWritten d := by
  revert d; decide

theorem touch_eq (r : LatchRegs) (a : PpuAddr) : r.touch a = r.readAt a.toNat := by
  simp only [LatchRegs.touch, LatchRegs.readAt]
  split_ifs <;> simp_all <;> omega

end Sys2Proof.Machine
end

