-- ==== Sys2Proof/Laws/Exception.lean ====
section
/-! SUPPORT. Pushes as a whole, taking an exception and returning from one: everything each can do. -/

namespace Sys2Proof.Machine

open Sys2Proof

/-! ### Pushes -/

theorem Pushed.thenCpu {s t u : State} {xs : List (Nat × Byte)} (h : Pushed s t xs) (h' : SameOutsideCpu t u) :
    Pushed s u xs := by
  refine ⟨?_, ?_, ?_⟩
  · have e := h.onlyRam
    rw [h', e]
  · intro c hc
    rw [h']
    exact h.holds c hc
  · intro a ha
    rw [h'.busPeek]
    exact h.bytes a ha

theorem Pushed.fromCpu {s s' t : State} {xs : List (Nat × Byte)} (h : Pushed s' t xs) (h' : SameOutsideCpu s s') :
    Pushed s t xs := by
  refine ⟨?_, h.holds, ?_⟩
  · have e := h.onlyRam
    rw [e, h']
  · intro a ha
    rw [h.bytes a ha, h'.busPeek]

theorem sub_two (q : Byte) : q - 1#8 - 1#8 = q - 2#8 := by rw [BitVec.sub_sub]; rfl

theorem sub_three (q : Byte) : q - 2#8 - 1#8 = q - 3#8 := by rw [BitVec.sub_sub]; rfl

theorem pushed_push8 {s : State} (hr : s.ram.wf = true) (v : Byte) : Pushed s (push8 s v) [(stackCell s.cpu.sp, v)] :=
  pushed_one hr (by rw [push8_eq])

theorem push8_wf {s : State} (hr : s.ram.wf = true) (v : Byte) : (push8 s v).ram.wf = true := by
  rw [push8_eq]
  exact Mem.write_wf hr _ _

theorem push8_sp (s : State) (v : Byte) : (push8 s v).cpu.sp = s.cpu.sp - 1#8 := by rw [push8_eq]

/-- Two bytes pushed, high byte first (R12). -/
theorem pushed_push16 {s : State} (hr : s.ram.wf = true) (w : Addr) :
    Pushed s (push16 s w) [(stackCell s.cpu.sp, hi w), (stackCell (s.cpu.sp - 1#8), lo w)] := by
  have h2 := pushed_push8 (push8_wf hr (hi w)) (lo w)
  rw [push8_sp] at h2
  refine (pushed_push8 hr (hi w)).append h2 ?_ ?_
  · intro x hx y hy
    simp only [List.mem_singleton] at hx hy
    subst hx hy
    simp [stackCell_inj]
  · intro x hx
    simp only [List.mem_singleton] at hx
    subst hx
    exact stackCell_lt_size _

theorem push16_wf {s : State} (hr : s.ram.wf = true) (w : Addr) : (push16 s w).ram.wf = true :=
  push8_wf (push8_wf hr _) _

theorem push16_sp (s : State) (w : Addr) : (push16 s w).cpu.sp = s.cpu.sp - 2#8 := by
  rw [push16, push8_sp, push8_sp, sub_two]

/-- The three bytes of an exception pushed (R480). -/
theorem pushed_three {s : State} (hr : s.ram.wf = true) (w : Addr) (v : Byte) :
    Pushed s (push8 (push16 s w) v)
      [(stackCell s.cpu.sp, hi w), (stackCell (s.cpu.sp - 1#8), lo w), (stackCell (s.cpu.sp - 2#8), v)] := by
  have h2 := pushed_push8 (push16_wf hr w) v
  rw [push16_sp] at h2
  refine (pushed_push16 hr w).append h2 ?_ ?_
  · intro x hx y hy
    simp only [List.mem_cons, List.not_mem_nil, or_false] at hx hy
    subst hy
    rcases hx with hx | hx <;> subst hx <;> simp only [ne_eq, stackCell_inj] <;> generalize s.cpu.sp = q <;> revert q <;>
      decide
  · intro x hx
    simp only [List.mem_cons, List.not_mem_nil, or_false] at hx
    rcases hx with hx | hx <;> subst hx <;> exact stackCell_lt_size _

theorem push8_push16_cpu (s : State) (w : Addr) (v : Byte) :
    (push8 (push16 s w) v).cpu = { s.cpu with sp := s.cpu.sp - 3#8 } := by
  rw [push8_eq, push16_sp, push16_eq, sub_three]

/-! ### Taking an exception (R474, R476, R480) -/

theorem busPeek_high (s : State) {a : Addr} (h : 0x8000 ≤ a.toNat) :
    busPeek s a = s.cart.prg.read (s.mapper.prgOffset s.cart a % s.cart.prgSize) := by
  simp only [busPeek, cartCpuRead_high s h]

/-- The word at a vector is the cartridge's. -/
theorem wordAt_high {s t : State} (hc : t.cart = s.cart) (hm : t.mapper = s.mapper) {a : Addr} (h : 0x8000 ≤ a.toNat)
    (h' : a.toNat < 0xFFFF) : wordAt t a = wordAt s a := by
  have e1 : (a + 1#16).toNat = a.toNat + 1 := by
    rw [BitVec.toNat_add]
    simp
    omega
  simp only [wordAt, busPeek_high _ h, busPeek_high _ (show 0x8000 ≤ (a + 1#16).toNat by omega), hc, hm]

/-- Everything `takeException` does, for a vector in the cartridge's space. -/
theorem takeException_eq (s : State) (ret : Addr) (status : Byte) {v : Addr} (h : 0x8000 ≤ v.toNat) (h' : v.toNat < 0xFFFF) :
    takeException s ret status v = { push8 (push16 s ret) status with
      cpu := { s.cpu with sp := s.cpu.sp - 3#8, p := setFlag s.cpu.p .I true, pc := wordAt s v } } := by
  have e := push8_push16_cpu s ret status
  have hw : wordAt ((push8 (push16 s ret) status).putFlag .I true) v = wordAt s v := by
    apply wordAt_high _ _ h h' <;> simp [push8_eq, push16_eq]
  simp only [takeException, read16_high _ h h']
  simp only [State.setPc]
  rw [show cat (busPeek ((push8 (push16 s ret) status).putFlag .I true) (v + 1#16))
    (busPeek ((push8 (push16 s ret) status).putFlag .I true) v) = wordAt s v from hw]
  simp only [State.putFlag, State.setP, e]

/-- Taking an exception from a CPU whose cycle count alone has changed since `s`. -/
theorem entered_takeException {s s' t : State} (hs : SameOutsideCpu s s') (hc : s'.cpu = { s.cpu with cyc := s'.cpu.cyc })
    (hr : s.ram.wf = true) {ret : Addr} {status : Byte} {v : Addr} (h : 0x8000 ≤ v.toNat) (h' : v.toNat < 0xFFFF) {n : Nat}
    (ht : t = (takeException s' ret status v).setCyc n) : Entered s t ret status v n := by
  have hr' : s'.ram.wf = true := by rw [hs]; exact hr
  have hp := pushed_three hr' ret status
  have esp : s'.cpu.sp = s.cpu.sp := by rw [hc]
  rw [esp] at hp
  rw [takeException_eq s' ret status h h'] at ht
  have hw : wordAt s' v = wordAt s v := by apply wordAt_high _ _ h h' <;> rw [hs]
  subst ht
  refine ⟨(Pushed.fromCpu hp hs).thenCpu rfl, ?_, ?_, ?_⟩
  · simp only [State.setCyc, hw]
    rw [hc]
  · simp [State.setCyc]
  · rw [hc]
    exact flagsKept_setFlag _ _ _

/-! ### Returning from one (R213, R481) -/

theorem add_two (q : Byte) : q + 1#8 + 1#8 = q + 2#8 := by rw [BitVec.add_assoc]; rfl

theorem add_three (q : Byte) : q + 2#8 + 1#8 = q + 3#8 := by rw [BitVec.add_assoc]; rfl

/-- Everything `returnFromException` does. -/
theorem returnFromException_eq (s : State) :
    returnFromException s = { s with cpu := { s.cpu with
      sp := s.cpu.sp + 3#8
      p := pulledStatus (s.ram.read (stackCell (s.cpu.sp + 1#8)))
      pc := cat (s.ram.read (stackCell (s.cpu.sp + 3#8))) (s.ram.read (stackCell (s.cpu.sp + 2#8))) } } := by
  simp only [returnFromException, pop8_eq, pop16_eq, State.setP, State.setPc, add_two, add_three]

end Sys2Proof.Machine
end

