-- ==== Sys2Proof/Laws/Inv.lean ====
section
/-! SUPPORT. The invariant over one access: no read and no write through the Bus leaves it, every memory operation keeps the
canonical form and the size, and every flag computation keeps U set and B clear. -/

namespace Sys2Proof.Machine

/-- U set and B clear (R25, R26). -/
def StatusOk (p : Byte) : Prop := getFlag p .U = true ∧ getFlag p .B = false

theorem Cpu.Ok.status {c : Cpu} (h : c.Ok) : StatusOk c.p := ⟨h.unused, h.break_⟩

theorem StatusOk.of_kept {fs : List Flag} {p q : Byte} (h : StatusOk p) (k : FlagsKept fs p q) (hu : Flag.U ∉ fs)
    (hb : Flag.B ∉ fs) : StatusOk q := ⟨(k _ hu).trans h.1, (k _ hb).trans h.2⟩

theorem statusOk_pulledStatus (v : Byte) : StatusOk (pulledStatus v) := by
  revert v; unfold StatusOk; decide

/-- The invariant of a machine that is `s` but for a CPU that meets its own. -/
theorem State.Inv.setCpu {s : State} (h : s.Inv) {c : Cpu} (hc : c.Ok) : State.Inv { s with cpu := c } :=
  { h with cpu := hc }

theorem ReadLeft.inv {s t : State} (h : ReadLeft s t) (hs : s.Inv) : t.Inv := by
  obtain ⟨v, w, vb, oa, rb, hp⟩ := h.ppu
  exact
    { cpu := by rw [h.cpu]; exact hs.cpu
      ppu := by
        rw [hp]
        exact { hs.ppu with }
      dma := by rw [h.dma]; exact hs.dma
      mapper := h.mapperOk hs.mapper
      ram := by rw [h.ram]; exact hs.ram
      mapperRam := by rw [h.mapperRam]; exact hs.mapperRam
      cart := by rw [h.cart]; exact hs.cart }

/-- Reads keep the invariant. -/
theorem busRead_inv {s : State} (h : s.Inv) (a : Addr) : (busRead s a).2.Inv := (busRead_left s a).inv h

/-! ### Writes -/

theorem ntIndex_lt (m : Mirroring) (a : PpuAddr) : ntIndex m a < 0x800 := by
  unfold ntIndex
  cases m <;> simp <;> omega

theorem palIndex_lt (a : PpuAddr) : palIndex a < 0x20 := by
  unfold palIndex
  simp only
  split_ifs <;> omega

theorem ppuWrite_inv {s : State} (h : s.Inv) (a : PpuAddr) (d : Byte) : (ppuWrite s a d).Inv := by
  unfold ppuWrite
  split_ifs
  · exact h
  · exact { h with ppu := { h.ppu with chrRam := Mem.ok_write h.ppu.chrRam (by omega) d } }
  · exact { h with ppu := { h.ppu with nt := Mem.ok_write h.ppu.nt (ntIndex_lt _ _) d } }
  · exact { h with ppu := { h.ppu with pal := Mem.ok_write h.ppu.pal (palIndex_lt _) d } }

theorem ppuPortWrite_inv {s : State} (h : s.Inv) (n : Nat) (d : Byte) : (ppuPortWrite s n d).Inv := by
  unfold ppuPortWrite
  split
  · exact { h with ppu := { h.ppu with } }
  · exact { h with ppu := { h.ppu with } }
  · exact { h with ppu := { h.ppu with } }
  · exact { h with ppu := { h.ppu with oam := Mem.ok_write h.ppu.oam s.ppu.oamaddr.isLt d } }
  · unfold scrollWrite
    split <;> exact { h with ppu := { h.ppu with } }
  · unfold addressWrite
    split <;> exact { h with ppu := { h.ppu with } }
  · have := ppuWrite_inv h s.ppu.dataAddr d
    exact { this with ppu := { this.ppu with } }
  · exact h

theorem shiftWrite_count {r : ShiftRegs} (h : r.count ≤ 4) (a : Addr) (d : Byte) : (r.write a d).count ≤ 4 := by
  unfold ShiftRegs.write
  split
  · exact Nat.zero_le _
  · simp only
    split
    · split <;> exact Nat.zero_le _
    · simp only; omega

theorem writeReg_ok {m : Mapper} (h : m.Ok) (a : Addr) (d : Byte) : (m.writeReg a d).Ok := by
  cases m <;> try trivial
  exact shiftWrite_count h a d

/-- Writes keep the invariant. -/
theorem busWrite_inv {s : State} (h : s.Inv) (a : Addr) (d : Byte) : (busWrite s a d).Inv := by
  rcases busWrite_cases s a d with ⟨_, e⟩ | ⟨_, e, _⟩ | ⟨_, e⟩ | ⟨_, e⟩ | ⟨_, e⟩ | ⟨_, _, e⟩ | ⟨_, e⟩ | ⟨_, _, _, _, _, e⟩ <;>
    rw [e]
  · exact { h with ram := Mem.ok_write h.ram (Nat.mod_lt _ (by decide)) d }
  · exact ppuPortWrite_inv h _ d
  · exact { h with dma := fun e => Bool.noConfusion e }
  · exact { h with }
  · exact { h with }
  · exact { h with mapperRam := Mem.ok_write h.mapperRam (Nat.mod_lt _ (by decide)) d }
  · exact { h with mapper := writeReg_ok h.mapper a d }
  · exact h

end Sys2Proof.Machine
end

