-- ==== Sys2Proof/Laws/PerInstr.lean ====
section
/-! SUPPORT. The family OpcodeRow: what every instruction's opcode is in the opcode table (rule R114) and in the decoder's
shapes, one lemma per constructor. -/

namespace Sys2Proof.Laws.OpcodeRow

open Sys2Proof Sys2Proof.Machine

/-- The table's row at the instruction's opcode names its mnemonic and its mode, and the opcode's shape, completed with the
instruction's own operand bytes, is the instruction. -/
def Statement (i : Instr) : Prop :=
  ((tableRow i.opcode).1, (tableRow i.opcode).2.1) = (i.mnem, i.mode) ∧
    match opcodeShape i.opcode with
    | .one j => i.operand.bytes = [] ∧ j = i
    | .two f => ∃ d, i.operand.bytes = [d] ∧ f d = i
    | .three f => ∃ a, i.operand.bytes = [lo a, hi a] ∧ f a = i

theorem brkImp : Statement .brkImp := ⟨rfl, rfl, rfl⟩
theorem oraIzx (d : Byte) : Statement (.oraIzx d) := ⟨rfl, d, rfl, rfl⟩
theorem kilImp02 : Statement .kilImp02 := ⟨rfl, rfl, rfl⟩
theorem sloIzx (d : Byte) : Statement (.sloIzx d) := ⟨rfl, d, rfl, rfl⟩
theorem nopZp004 (d : Byte) : Statement (.nopZp004 d) := ⟨rfl, d, rfl, rfl⟩
theorem oraZp0 (d : Byte) : Statement (.oraZp0 d) := ⟨rfl, d, rfl, rfl⟩
theorem aslZp0 (d : Byte) : Statement (.aslZp0 d) := ⟨rfl, d, rfl, rfl⟩
theorem sloZp0 (d : Byte) : Statement (.sloZp0 d) := ⟨rfl, d, rfl, rfl⟩
theorem phpImp : Statement .phpImp := ⟨rfl, rfl, rfl⟩
theorem oraImm (d : Byte) : Statement (.oraImm d) := ⟨rfl, d, rfl, rfl⟩
theorem aslImp : Statement .aslImp := ⟨rfl, rfl, rfl⟩
theorem ancImm0B (d : Byte) : Statement (.ancImm0B d) := ⟨rfl, d, rfl, rfl⟩
theorem nopAbs (a : Addr) : Statement (.nopAbs a) := ⟨rfl, a, rfl, rfl⟩
theorem oraAbs (a : Addr) : Statement (.oraAbs a) := ⟨rfl, a, rfl, rfl⟩
theorem aslAbs (a : Addr) : Statement (.aslAbs a) := ⟨rfl, a, rfl, rfl⟩
theorem sloAbs (a : Addr) : Statement (.sloAbs a) := ⟨rfl, a, rfl, rfl⟩
theorem bplRel (d : Byte) : Statement (.bplRel d) := ⟨rfl, d, rfl, rfl⟩
theorem oraIzy (d : Byte) : Statement (.oraIzy d) := ⟨rfl, d, rfl, rfl⟩
theorem kilImp12 : Statement .kilImp12 := ⟨rfl, rfl, rfl⟩
theorem sloIzy (d : Byte) : Statement (.sloIzy d) := ⟨rfl, d, rfl, rfl⟩
theorem nopZpx14 (d : Byte) : Statement (.nopZpx14 d) := ⟨rfl, d, rfl, rfl⟩
theorem oraZpx (d : Byte) : Statement (.oraZpx d) := ⟨rfl, d, rfl, rfl⟩
theorem aslZpx (d : Byte) : Statement (.aslZpx d) := ⟨rfl, d, rfl, rfl⟩
theorem sloZpx (d : Byte) : Statement (.sloZpx d) := ⟨rfl, d, rfl, rfl⟩
theorem clcImp : Statement .clcImp := ⟨rfl, rfl, rfl⟩
theorem oraAby (a : Addr) : Statement (.oraAby a) := ⟨rfl, a, rfl, rfl⟩
theorem nopImp1A : Statement .nopImp1A := ⟨rfl, rfl, rfl⟩
theorem sloAby (a : Addr) : Statement (.sloAby a) := ⟨rfl, a, rfl, rfl⟩
theorem nopAbx1C (a : Addr) : Statement (.nopAbx1C a) := ⟨rfl, a, rfl, rfl⟩
theorem oraAbx (a : Addr) : Statement (.oraAbx a) := ⟨rfl, a, rfl, rfl⟩
theorem aslAbx (a : Addr) : Statement (.aslAbx a) := ⟨rfl, a, rfl, rfl⟩
theorem sloAbx (a : Addr) : Statement (.sloAbx a) := ⟨rfl, a, rfl, rfl⟩
theorem jsrAbs (a : Addr) : Statement (.jsrAbs a) := ⟨rfl, a, rfl, rfl⟩
theorem andIzx (d : Byte) : Statement (.andIzx d) := ⟨rfl, d, rfl, rfl⟩
theorem kilImp22 : Statement .kilImp22 := ⟨rfl, rfl, rfl⟩
theorem rlaIzx (d : Byte) : Statement (.rlaIzx d) := ⟨rfl, d, rfl, rfl⟩
theorem bitZp0 (d : Byte) : Statement (.bitZp0 d) := ⟨rfl, d, rfl, rfl⟩
theorem andZp0 (d : Byte) : Statement (.andZp0 d) := ⟨rfl, d, rfl, rfl⟩
theorem rolZp0 (d : Byte) : Statement (.rolZp0 d) := ⟨rfl, d, rfl, rfl⟩
theorem rlaZp0 (d : Byte) : Statement (.rlaZp0 d) := ⟨rfl, d, rfl, rfl⟩
theorem plpImp : Statement .plpImp := ⟨rfl, rfl, rfl⟩
theorem andImm (d : Byte) : Statement (.andImm d) := ⟨rfl, d, rfl, rfl⟩
theorem rolImp : Statement .rolImp := ⟨rfl, rfl, rfl⟩
theorem ancImm2B (d : Byte) : Statement (.ancImm2B d) := ⟨rfl, d, rfl, rfl⟩
theorem bitAbs (a : Addr) : Statement (.bitAbs a) := ⟨rfl, a, rfl, rfl⟩
theorem andAbs (a : Addr) : Statement (.andAbs a) := ⟨rfl, a, rfl, rfl⟩
theorem rolAbs (a : Addr) : Statement (.rolAbs a) := ⟨rfl, a, rfl, rfl⟩
theorem rlaAbs (a : Addr) : Statement (.rlaAbs a) := ⟨rfl, a, rfl, rfl⟩
theorem bmiRel (d : Byte) : Statement (.bmiRel d) := ⟨rfl, d, rfl, rfl⟩
theorem andIzy (d : Byte) : Statement (.andIzy d) := ⟨rfl, d, rfl, rfl⟩
theorem kilImp32 : Statement .kilImp32 := ⟨rfl, rfl, rfl⟩
theorem rlaIzy (d : Byte) : Statement (.rlaIzy d) := ⟨rfl, d, rfl, rfl⟩
theorem nopZpx34 (d : Byte) : Statement (.nopZpx34 d) := ⟨rfl, d, rfl, rfl⟩
theorem andZpx (d : Byte) : Statement (.andZpx d) := ⟨rfl, d, rfl, rfl⟩
theorem rolZpx (d : Byte) : Statement (.rolZpx d) := ⟨rfl, d, rfl, rfl⟩
theorem rlaZpx (d : Byte) : Statement (.rlaZpx d) := ⟨rfl, d, rfl, rfl⟩
theorem secImp : Statement .secImp := ⟨rfl, rfl, rfl⟩
theorem andAby (a : Addr) : Statement (.andAby a) := ⟨rfl, a, rfl, rfl⟩
theorem nopImp3A : Statement .nopImp3A := ⟨rfl, rfl, rfl⟩
theorem rlaAby (a : Addr) : Statement (.rlaAby a) := ⟨rfl, a, rfl, rfl⟩
theorem nopAbx3C (a : Addr) : Statement (.nopAbx3C a) := ⟨rfl, a, rfl, rfl⟩
theorem andAbx (a : Addr) : Statement (.andAbx a) := ⟨rfl, a, rfl, rfl⟩
theorem rolAbx (a : Addr) : Statement (.rolAbx a) := ⟨rfl, a, rfl, rfl⟩
theorem rlaAbx (a : Addr) : Statement (.rlaAbx a) := ⟨rfl, a, rfl, rfl⟩
theorem rtiImp : Statement .rtiImp := ⟨rfl, rfl, rfl⟩
theorem eorIzx (d : Byte) : Statement (.eorIzx d) := ⟨rfl, d, rfl, rfl⟩
theorem kilImp42 : Statement .kilImp42 := ⟨rfl, rfl, rfl⟩
theorem sreIzx (d : Byte) : Statement (.sreIzx d) := ⟨rfl, d, rfl, rfl⟩
theorem nopZp044 (d : Byte) : Statement (.nopZp044 d) := ⟨rfl, d, rfl, rfl⟩
theorem eorZp0 (d : Byte) : Statement (.eorZp0 d) := ⟨rfl, d, rfl, rfl⟩
theorem lsrZp0 (d : Byte) : Statement (.lsrZp0 d) := ⟨rfl, d, rfl, rfl⟩
theorem sreZp0 (d : Byte) : Statement (.sreZp0 d) := ⟨rfl, d, rfl, rfl⟩
theorem phaImp : Statement .phaImp := ⟨rfl, rfl, rfl⟩
theorem eorImm (d : Byte) : Statement (.eorImm d) := ⟨rfl, d, rfl, rfl⟩
theorem lsrImp : Statement .lsrImp := ⟨rfl, rfl, rfl⟩
theorem alrImm (d : Byte) : Statement (.alrImm d) := ⟨rfl, d, rfl, rfl⟩
theorem jmpAbs (a : Addr) : Statement (.jmpAbs a) := ⟨rfl, a, rfl, rfl⟩
theorem eorAbs (a : Addr) : Statement (.eorAbs a) := ⟨rfl, a, rfl, rfl⟩
theorem lsrAbs (a : Addr) : Statement (.lsrAbs a) := ⟨rfl, a, rfl, rfl⟩
theorem sreAbs (a : Addr) : Statement (.sreAbs a) := ⟨rfl, a, rfl, rfl⟩
theorem bvcRel (d : Byte) : Statement (.bvcRel d) := ⟨rfl, d, rfl, rfl⟩
theorem eorIzy (d : Byte) : Statement (.eorIzy d) := ⟨rfl, d, rfl, rfl⟩
theorem kilImp52 : Statement .kilImp52 := ⟨rfl, rfl, rfl⟩
theorem sreIzy (d : Byte) : Statement (.sreIzy d) := ⟨rfl, d, rfl, rfl⟩
theorem nopZpx54 (d : Byte) : Statement (.nopZpx54 d) := ⟨rfl, d, rfl, rfl⟩
theorem eorZpx (d : Byte) : Statement (.eorZpx d) := ⟨rfl, d, rfl, rfl⟩
theorem lsrZpx (d : Byte) : Statement (.lsrZpx d) := ⟨rfl, d, rfl, rfl⟩
theorem sreZpx (d : Byte) : Statement (.sreZpx d) := ⟨rfl, d, rfl, rfl⟩
theorem cliImp : Statement .cliImp := ⟨rfl, rfl, rfl⟩
theorem eorAby (a : Addr) : Statement (.eorAby a) := ⟨rfl, a, rfl, rfl⟩
theorem nopImp5A : Statement .nopImp5A := ⟨rfl, rfl, rfl⟩
theorem sreAby (a : Addr) : Statement (.sreAby a) := ⟨rfl, a, rfl, rfl⟩
theorem nopAbx5C (a : Addr) : Statement (.nopAbx5C a) := ⟨rfl, a, rfl, rfl⟩
theorem eorAbx (a : Addr) : Statement (.eorAbx a) := ⟨rfl, a, rfl, rfl⟩
theorem lsrAbx (a : Addr) : Statement (.lsrAbx a) := ⟨rfl, a, rfl, rfl⟩
theorem sreAbx (a : Addr) : Statement (.sreAbx a) := ⟨rfl, a, rfl, rfl⟩
theorem rtsImp : Statement .rtsImp := ⟨rfl, rfl, rfl⟩
theorem adcIzx (d : Byte) : Statement (.adcIzx d) := ⟨rfl, d, rfl, rfl⟩
theorem kilImp62 : Statement .kilImp62 := ⟨rfl, rfl, rfl⟩
theorem rraIzx (d : Byte) : Statement (.rraIzx d) := ⟨rfl, d, rfl, rfl⟩
theorem nopZp064 (d : Byte) : Statement (.nopZp064 d) := ⟨rfl, d, rfl, rfl⟩
theorem adcZp0 (d : Byte) : Statement (.adcZp0 d) := ⟨rfl, d, rfl, rfl⟩
theorem rorZp0 (d : Byte) : Statement (.rorZp0 d) := ⟨rfl, d, rfl, rfl⟩
theorem rraZp0 (d : Byte) : Statement (.rraZp0 d) := ⟨rfl, d, rfl, rfl⟩
theorem plaImp : Statement .plaImp := ⟨rfl, rfl, rfl⟩
theorem adcImm (d : Byte) : Statement (.adcImm d) := ⟨rfl, d, rfl, rfl⟩
theorem rorImp : Statement .rorImp := ⟨rfl, rfl, rfl⟩
theorem arrImm (d : Byte) : Statement (.arrImm d) := ⟨rfl, d, rfl, rfl⟩
theorem jmpInd (a : Addr) : Statement (.jmpInd a) := ⟨rfl, a, rfl, rfl⟩
theorem adcAbs (a : Addr) : Statement (.adcAbs a) := ⟨rfl, a, rfl, rfl⟩
theorem rorAbs (a : Addr) : Statement (.rorAbs a) := ⟨rfl, a, rfl, rfl⟩
theorem rraAbs (a : Addr) : Statement (.rraAbs a) := ⟨rfl, a, rfl, rfl⟩
theorem bvsRel (d : Byte) : Statement (.bvsRel d) := ⟨rfl, d, rfl, rfl⟩
theorem adcIzy (d : Byte) : Statement (.adcIzy d) := ⟨rfl, d, rfl, rfl⟩
theorem kilImp72 : Statement .kilImp72 := ⟨rfl, rfl, rfl⟩
theorem rraIzy (d : Byte) : Statement (.rraIzy d) := ⟨rfl, d, rfl, rfl⟩
theorem nopZpx74 (d : Byte) : Statement (.nopZpx74 d) := ⟨rfl, d, rfl, rfl⟩
theorem adcZpx (d : Byte) : Statement (.adcZpx d) := ⟨rfl, d, rfl, rfl⟩
theorem rorZpx (d : Byte) : Statement (.rorZpx d) := ⟨rfl, d, rfl, rfl⟩
theorem rraZpx (d : Byte) : Statement (.rraZpx d) := ⟨rfl, d, rfl, rfl⟩
theorem seiImp : Statement .seiImp := ⟨rfl, rfl, rfl⟩
theorem adcAby (a : Addr) : Statement (.adcAby a) := ⟨rfl, a, rfl, rfl⟩
theorem nopImp7A : Statement .nopImp7A := ⟨rfl, rfl, rfl⟩
theorem rraAby (a : Addr) : Statement (.rraAby a) := ⟨rfl, a, rfl, rfl⟩
theorem nopAbx7C (a : Addr) : Statement (.nopAbx7C a) := ⟨rfl, a, rfl, rfl⟩
theorem adcAbx (a : Addr) : Statement (.adcAbx a) := ⟨rfl, a, rfl, rfl⟩
theorem rorAbx (a : Addr) : Statement (.rorAbx a) := ⟨rfl, a, rfl, rfl⟩
theorem rraAbx (a : Addr) : Statement (.rraAbx a) := ⟨rfl, a, rfl, rfl⟩
theorem nopImm80 (d : Byte) : Statement (.nopImm80 d) := ⟨rfl, d, rfl, rfl⟩
theorem staIzx (d : Byte) : Statement (.staIzx d) := ⟨rfl, d, rfl, rfl⟩
theorem nopImm82 (d : Byte) : Statement (.nopImm82 d) := ⟨rfl, d, rfl, rfl⟩
theorem saxIzx (d : Byte) : Statement (.saxIzx d) := ⟨rfl, d, rfl, rfl⟩
theorem styZp0 (d : Byte) : Statement (.styZp0 d) := ⟨rfl, d, rfl, rfl⟩
theorem staZp0 (d : Byte) : Statement (.staZp0 d) := ⟨rfl, d, rfl, rfl⟩
theorem stxZp0 (d : Byte) : Statement (.stxZp0 d) := ⟨rfl, d, rfl, rfl⟩
theorem saxZp0 (d : Byte) : Statement (.saxZp0 d) := ⟨rfl, d, rfl, rfl⟩
theorem deyImp : Statement .deyImp := ⟨rfl, rfl, rfl⟩
theorem nopImm89 (d : Byte) : Statement (.nopImm89 d) := ⟨rfl, d, rfl, rfl⟩
theorem txaImp : Statement .txaImp := ⟨rfl, rfl, rfl⟩
theorem xaaImm (d : Byte) : Statement (.xaaImm d) := ⟨rfl, d, rfl, rfl⟩
theorem styAbs (a : Addr) : Statement (.styAbs a) := ⟨rfl, a, rfl, rfl⟩
theorem staAbs (a : Addr) : Statement (.staAbs a) := ⟨rfl, a, rfl, rfl⟩
theorem stxAbs (a : Addr) : Statement (.stxAbs a) := ⟨rfl, a, rfl, rfl⟩
theorem saxAbs (a : Addr) : Statement (.saxAbs a) := ⟨rfl, a, rfl, rfl⟩
theorem bccRel (d : Byte) : Statement (.bccRel d) := ⟨rfl, d, rfl, rfl⟩
theorem staIzy (d : Byte) : Statement (.staIzy d) := ⟨rfl, d, rfl, rfl⟩
theorem kilImp92 : Statement .kilImp92 := ⟨rfl, rfl, rfl⟩
theorem ahxIzy (d : Byte) : Statement (.ahxIzy d) := ⟨rfl, d, rfl, rfl⟩
theorem styZpx (d : Byte) : Statement (.styZpx d) := ⟨rfl, d, rfl, rfl⟩
theorem staZpx (d : Byte) : Statement (.staZpx d) := ⟨rfl, d, rfl, rfl⟩
theorem stxZpy (d : Byte) : Statement (.stxZpy d) := ⟨rfl, d, rfl, rfl⟩
theorem saxZpy (d : Byte) : Statement (.saxZpy d) := ⟨rfl, d, rfl, rfl⟩
theorem tyaImp : Statement .tyaImp := ⟨rfl, rfl, rfl⟩
theorem staAby (a : Addr) : Statement (.staAby a) := ⟨rfl, a, rfl, rfl⟩
theorem txsImp : Statement .txsImp := ⟨rfl, rfl, rfl⟩
theorem tasAby (a : Addr) : Statement (.tasAby a) := ⟨rfl, a, rfl, rfl⟩
theorem shyAbx (a : Addr) : Statement (.shyAbx a) := ⟨rfl, a, rfl, rfl⟩
theorem staAbx (a : Addr) : Statement (.staAbx a) := ⟨rfl, a, rfl, rfl⟩
theorem shxAby (a : Addr) : Statement (.shxAby a) := ⟨rfl, a, rfl, rfl⟩
theorem ahxAby (a : Addr) : Statement (.ahxAby a) := ⟨rfl, a, rfl, rfl⟩
theorem ldyImm (d : Byte) : Statement (.ldyImm d) := ⟨rfl, d, rfl, rfl⟩
theorem ldaIzx (d : Byte) : Statement (.ldaIzx d) := ⟨rfl, d, rfl, rfl⟩
theorem ldxImm (d : Byte) : Statement (.ldxImm d) := ⟨rfl, d, rfl, rfl⟩
theorem laxIzx (d : Byte) : Statement (.laxIzx d) := ⟨rfl, d, rfl, rfl⟩
theorem ldyZp0 (d : Byte) : Statement (.ldyZp0 d) := ⟨rfl, d, rfl, rfl⟩
theorem ldaZp0 (d : Byte) : Statement (.ldaZp0 d) := ⟨rfl, d, rfl, rfl⟩
theorem ldxZp0 (d : Byte) : Statement (.ldxZp0 d) := ⟨rfl, d, rfl, rfl⟩
theorem laxZp0 (d : Byte) : Statement (.laxZp0 d) := ⟨rfl, d, rfl, rfl⟩
theorem tayImp : Statement .tayImp := ⟨rfl, rfl, rfl⟩
theorem ldaImm (d : Byte) : Statement (.ldaImm d) := ⟨rfl, d, rfl, rfl⟩
theorem taxImp : Statement .taxImp := ⟨rfl, rfl, rfl⟩
theorem lxaImm (d : Byte) : Statement (.lxaImm d) := ⟨rfl, d, rfl, rfl⟩
theorem ldyAbs (a : Addr) : Statement (.ldyAbs a) := ⟨rfl, a, rfl, rfl⟩
theorem ldaAbs (a : Addr) : Statement (.ldaAbs a) := ⟨rfl, a, rfl, rfl⟩
theorem ldxAbs (a : Addr) : Statement (.ldxAbs a) := ⟨rfl, a, rfl, rfl⟩
theorem laxAbs (a : Addr) : Statement (.laxAbs a) := ⟨rfl, a, rfl, rfl⟩
theorem bcsRel (d : Byte) : Statement (.bcsRel d) := ⟨rfl, d, rfl, rfl⟩
theorem ldaIzy (d : Byte) : Statement (.ldaIzy d) := ⟨rfl, d, rfl, rfl⟩
theorem kilImpB2 : Statement .kilImpB2 := ⟨rfl, rfl, rfl⟩
theorem laxIzy (d : Byte) : Statement (.laxIzy d) := ⟨rfl, d, rfl, rfl⟩
theorem ldyZpx (d : Byte) : Statement (.ldyZpx d) := ⟨rfl, d, rfl, rfl⟩
theorem ldaZpx (d : Byte) : Statement (.ldaZpx d) := ⟨rfl, d, rfl, rfl⟩
theorem ldxZpy (d : Byte) : Statement (.ldxZpy d) := ⟨rfl, d, rfl, rfl⟩
theorem laxZpy (d : Byte) : Statement (.laxZpy d) := ⟨rfl, d, rfl, rfl⟩
theorem clvImp : Statement .clvImp := ⟨rfl, rfl, rfl⟩
theorem ldaAby (a : Addr) : Statement (.ldaAby a) := ⟨rfl, a, rfl, rfl⟩
theorem tsxImp : Statement .tsxImp := ⟨rfl, rfl, rfl⟩
theorem lasAby (a : Addr) : Statement (.lasAby a) := ⟨rfl, a, rfl, rfl⟩
theorem ldyAbx (a : Addr) : Statement (.ldyAbx a) := ⟨rfl, a, rfl, rfl⟩
theorem ldaAbx (a : Addr) : Statement (.ldaAbx a) := ⟨rfl, a, rfl, rfl⟩
theorem ldxAby (a : Addr) : Statement (.ldxAby a) := ⟨rfl, a, rfl, rfl⟩
theorem laxAby (a : Addr) : Statement (.laxAby a) := ⟨rfl, a, rfl, rfl⟩
theorem cpyImm (d : Byte) : Statement (.cpyImm d) := ⟨rfl, d, rfl, rfl⟩
theorem cmpIzx (d : Byte) : Statement (.cmpIzx d) := ⟨rfl, d, rfl, rfl⟩
theorem nopImmC2 (d : Byte) : Statement (.nopImmC2 d) := ⟨rfl, d, rfl, rfl⟩
theorem dcpIzx (d : Byte) : Statement (.dcpIzx d) := ⟨rfl, d, rfl, rfl⟩
theorem cpyZp0 (d : Byte) : Statement (.cpyZp0 d) := ⟨rfl, d, rfl, rfl⟩
theorem cmpZp0 (d : Byte) : Statement (.cmpZp0 d) := ⟨rfl, d, rfl, rfl⟩
theorem decZp0 (d : Byte) : Statement (.decZp0 d) := ⟨rfl, d, rfl, rfl⟩
theorem dcpZp0 (d : Byte) : Statement (.dcpZp0 d) := ⟨rfl, d, rfl, rfl⟩
theorem inyImp : Statement .inyImp := ⟨rfl, rfl, rfl⟩
theorem cmpImm (d : Byte) : Statement (.cmpImm d) := ⟨rfl, d, rfl, rfl⟩
theorem dexImp : Statement .dexImp := ⟨rfl, rfl, rfl⟩
theorem axsImm (d : Byte) : Statement (.axsImm d) := ⟨rfl, d, rfl, rfl⟩
theorem cpyAbs (a : Addr) : Statement (.cpyAbs a) := ⟨rfl, a, rfl, rfl⟩
theorem cmpAbs (a : Addr) : Statement (.cmpAbs a) := ⟨rfl, a, rfl, rfl⟩
theorem decAbs (a : Addr) : Statement (.decAbs a) := ⟨rfl, a, rfl, rfl⟩
theorem dcpAbs (a : Addr) : Statement (.dcpAbs a) := ⟨rfl, a, rfl, rfl⟩
theorem bneRel (d : Byte) : Statement (.bneRel d) := ⟨rfl, d, rfl, rfl⟩
theorem cmpIzy (d : Byte) : Statement (.cmpIzy d) := ⟨rfl, d, rfl, rfl⟩
theorem kilImpD2 : Statement .kilImpD2 := ⟨rfl, rfl, rfl⟩
theorem dcpIzy (d : Byte) : Statement (.dcpIzy d) := ⟨rfl, d, rfl, rfl⟩
theorem nopZpxD4 (d : Byte) : Statement (.nopZpxD4 d) := ⟨rfl, d, rfl, rfl⟩
theorem cmpZpx (d : Byte) : Statement (.cmpZpx d) := ⟨rfl, d, rfl, rfl⟩
theorem decZpx (d : Byte) : Statement (.decZpx d) := ⟨rfl, d, rfl, rfl⟩
theorem dcpZpx (d : Byte) : Statement (.dcpZpx d) := ⟨rfl, d, rfl, rfl⟩
theorem cldImp : Statement .cldImp := ⟨rfl, rfl, rfl⟩
theorem cmpAby (a : Addr) : Statement (.cmpAby a) := ⟨rfl, a, rfl, rfl⟩
theorem nopImpDA : Statement .nopImpDA := ⟨rfl, rfl, rfl⟩
theorem dcpAby (a : Addr) : Statement (.dcpAby a) := ⟨rfl, a, rfl, rfl⟩
theorem nopAbxDC (a : Addr) : Statement (.nopAbxDC a) := ⟨rfl, a, rfl, rfl⟩
theorem cmpAbx (a : Addr) : Statement (.cmpAbx a) := ⟨rfl, a, rfl, rfl⟩
theorem decAbx (a : Addr) : Statement (.decAbx a) := ⟨rfl, a, rfl, rfl⟩
theorem dcpAbx (a : Addr) : Statement (.dcpAbx a) := ⟨rfl, a, rfl, rfl⟩
theorem cpxImm (d : Byte) : Statement (.cpxImm d) := ⟨rfl, d, rfl, rfl⟩
theorem sbcIzx (d : Byte) : Statement (.sbcIzx d) := ⟨rfl, d, rfl, rfl⟩
theorem nopImmE2 (d : Byte) : Statement (.nopImmE2 d) := ⟨rfl, d, rfl, rfl⟩
theorem iscIzx (d : Byte) : Statement (.iscIzx d) := ⟨rfl, d, rfl, rfl⟩
theorem cpxZp0 (d : Byte) : Statement (.cpxZp0 d) := ⟨rfl, d, rfl, rfl⟩
theorem sbcZp0 (d : Byte) : Statement (.sbcZp0 d) := ⟨rfl, d, rfl, rfl⟩
theorem incZp0 (d : Byte) : Statement (.incZp0 d) := ⟨rfl, d, rfl, rfl⟩
theorem iscZp0 (d : Byte) : Statement (.iscZp0 d) := ⟨rfl, d, rfl, rfl⟩
theorem inxImp : Statement .inxImp := ⟨rfl, rfl, rfl⟩
theorem sbcImm (d : Byte) : Statement (.sbcImm d) := ⟨rfl, d, rfl, rfl⟩
theorem nopImp : Statement .nopImp := ⟨rfl, rfl, rfl⟩
theorem sbcImmEB (d : Byte) : Statement (.sbcImmEB d) := ⟨rfl, d, rfl, rfl⟩
theorem cpxAbs (a : Addr) : Statement (.cpxAbs a) := ⟨rfl, a, rfl, rfl⟩
theorem sbcAbs (a : Addr) : Statement (.sbcAbs a) := ⟨rfl, a, rfl, rfl⟩
theorem incAbs (a : Addr) : Statement (.incAbs a) := ⟨rfl, a, rfl, rfl⟩
theorem iscAbs (a : Addr) : Statement (.iscAbs a) := ⟨rfl, a, rfl, rfl⟩
theorem beqRel (d : Byte) : Statement (.beqRel d) := ⟨rfl, d, rfl, rfl⟩
theorem sbcIzy (d : Byte) : Statement (.sbcIzy d) := ⟨rfl, d, rfl, rfl⟩
theorem kilImpF2 : Statement .kilImpF2 := ⟨rfl, rfl, rfl⟩
theorem iscIzy (d : Byte) : Statement (.iscIzy d) := ⟨rfl, d, rfl, rfl⟩
theorem nopZpxF4 (d : Byte) : Statement (.nopZpxF4 d) := ⟨rfl, d, rfl, rfl⟩
theorem sbcZpx (d : Byte) : Statement (.sbcZpx d) := ⟨rfl, d, rfl, rfl⟩
theorem incZpx (d : Byte) : Statement (.incZpx d) := ⟨rfl, d, rfl, rfl⟩
theorem iscZpx (d : Byte) : Statement (.iscZpx d) := ⟨rfl, d, rfl, rfl⟩
theorem sedImp : Statement .sedImp := ⟨rfl, rfl, rfl⟩
theorem sbcAby (a : Addr) : Statement (.sbcAby a) := ⟨rfl, a, rfl, rfl⟩
theorem nopImpFA : Statement .nopImpFA := ⟨rfl, rfl, rfl⟩
theorem iscAby (a : Addr) : Statement (.iscAby a) := ⟨rfl, a, rfl, rfl⟩
theorem nopAbxFC (a : Addr) : Statement (.nopAbxFC a) := ⟨rfl, a, rfl, rfl⟩
theorem sbcAbx (a : Addr) : Statement (.sbcAbx a) := ⟨rfl, a, rfl, rfl⟩
theorem incAbx (a : Addr) : Statement (.incAbx a) := ⟨rfl, a, rfl, rfl⟩
theorem iscAbx (a : Addr) : Statement (.iscAbx a) := ⟨rfl, a, rfl, rfl⟩

end Sys2Proof.Laws.OpcodeRow
end

