-- ==== Sys2Proof/Laws/Step.lean ====
section
/-! SUPPORT. Fetching an instruction and sequencing outcomes: what `fetchByte` and `fetchInstr` give where no byte of the
instruction lies at a device port, and what a fetch can change at all. -/

namespace Sys2Proof.Machine

open Sys2Proof

theorem thenNext_thenNext (r : Result) (f g : State → State) :
    thenNext (thenNext r f) g = thenNext r (fun s => g (f s)) := by cases r <;> rfl

@[simp] theorem thenNext_next (s : State) (f : State → State) : thenNext (.next s) f = .next (f s) := rfl

/-- Away from the device ports a read is `busPeek` and changes nothing. -/
theorem busRead_eq_peek (s : State) {a : Addr} (h : isDevice a = false) : busRead s a = (busPeek s a, s) := by
  refine Prod.ext ?_ (busRead_pure s h)
  simp only [isDevice, Bool.or_eq_false_iff, decide_eq_false_iff_not] at h
  unfold busRead busPeek
  split
  · rfl
  · split_ifs <;> first | rfl | omega

theorem fetchByte_eq (s : State) {a : Addr} (ha : s.cpu.pc = a) (h : isDevice a = false) :
    fetchByte s = (busPeek s a, s.setPc (a + 1#16)) := by
  subst ha
  simp [fetchByte, busRead_eq_peek s h]

/-- The shape an opcode byte selects has that opcode and its own length. -/
theorem opcodeShape_spec (op : Byte) :
    match opcodeShape op with
    | .one i => i.length = 1 ∧ i.opcode = op
    | .two f => ∀ d, (f d).length = 2 ∧ (f d).opcode = op
    | .three f => ∀ a, (f a).length = 3 ∧ (f a).opcode = op := by
  obtain ⟨⟨n, hn⟩⟩ := op
  interval_cases n <;> first | exact ⟨rfl, rfl⟩ | exact fun _ => ⟨rfl, rfl⟩

/-- A fetched byte changes `PC` and what a read can change. -/
theorem fetchByte_left (s : State) :
    ReadLeft { s with cpu := { s.cpu with pc := s.cpu.pc + 1#16 } } (fetchByte s).2 :=
  let h := busRead_left s s.cpu.pc
  { cpu := by simp [fetchByte, State.setPc], ram := h.ram, dma := h.dma, tick := h.tick, mapperRam := h.mapperRam
    cart := h.cart, ctlIn0 := h.ctlIn0, ctlIn1 := h.ctlIn1, mapper := h.mapper, hasRam := h.hasRam
    mapperOk := h.mapperOk, irq := h.irq, ppu := h.ppu }

end Sys2Proof.Machine
end

