-- ==== Sys2Proof/Machine/Debug.lean ====
section
/-! DEFINITION. The debug interface: disassembly through the side-effect-free read path (rules R120, R126, R413). -/

namespace Sys2Proof

/-- The name of a mode (R111). -/
def Mode.name : Mode → String
  | .IMP => "IMP"
  | .IMM => "IMM"
  | .ZP0 => "ZP0"
  | .ZPX => "ZPX"
  | .ZPY => "ZPY"
  | .REL => "REL"
  | .IZX => "IZX"
  | .IZY => "IZY"
  | .IND => "IND"
  | .ABS => "ABS"
  | .ABX => "ABX"
  | .ABY => "ABY"

/-- The spelling of a mnemonic (R121). -/
def Mnemonic.name : Mnemonic → String
  | .ADC => "ADC"
  | .AHX => "AHX"
  | .ALR => "ALR"
  | .ANC => "ANC"
  | .AND => "AND"
  | .ARR => "ARR"
  | .ASL => "ASL"
  | .AXS => "AXS"
  | .BCC => "BCC"
  | .BCS => "BCS"
  | .BEQ => "BEQ"
  | .BIT => "BIT"
  | .BMI => "BMI"
  | .BNE => "BNE"
  | .BPL => "BPL"
  | .BRK => "BRK"
  | .BVC => "BVC"
  | .BVS => "BVS"
  | .CLC => "CLC"
  | .CLD => "CLD"
  | .CLI => "CLI"
  | .CLV => "CLV"
  | .CMP => "CMP"
  | .CPX => "CPX"
  | .CPY => "CPY"
  | .DCP => "DCP"
  | .DEC => "DEC"
  | .DEX => "DEX"
  | .DEY => "DEY"
  | .EOR => "EOR"
  | .INC => "INC"
  | .INX => "INX"
  | .INY => "INY"
  | .ISC => "ISC"
  | .JMP => "JMP"
  | .JSR => "JSR"
  | .KIL => "KIL"
  | .LAS => "LAS"
  | .LAX => "LAX"
  | .LDA => "LDA"
  | .LDX => "LDX"
  | .LDY => "LDY"
  | .LSR => "LSR"
  | .LXA => "LXA"
  | .NOP => "NOP"
  | .ORA => "ORA"
  | .PHA => "PHA"
  | .PHP => "PHP"
  | .PLA => "PLA"
  | .PLP => "PLP"
  | .RLA => "RLA"
  | .ROL => "ROL"
  | .ROR => "ROR"
  | .RRA => "RRA"
  | .RTI => "RTI"
  | .RTS => "RTS"
  | .SAX => "SAX"
  | .SBC => "SBC"
  | .SEC => "SEC"
  | .SED => "SED"
  | .SEI => "SEI"
  | .SHX => "SHX"
  | .SHY => "SHY"
  | .SLO => "SLO"
  | .SRE => "SRE"
  | .STA => "STA"
  | .STX => "STX"
  | .STY => "STY"
  | .TAS => "TAS"
  | .TAX => "TAX"
  | .TAY => "TAY"
  | .TSX => "TSX"
  | .TXA => "TXA"
  | .TXS => "TXS"
  | .TYA => "TYA"
  | .XAA => "XAA"

/-- Other assemblers' names for the undocumented opcodes of a mnemonic (R121): spellings, not other instructions. -/
def Mnemonic.aliases : Mnemonic → List String
  | .SLO => ["ASO"]
  | .SRE => ["LSE"]
  | .SAX => ["AAX", "AXS"]
  | .DCP => ["DCM"]
  | .ISC => ["ISB", "INS"]
  | .ANC => ["AAC"]
  | .ALR => ["ASR"]
  | .XAA => ["ANE"]
  | .LXA => ["LAX", "ATX", "OAL"]
  | .AXS => ["SBX"]
  | .AHX => ["SHA", "AXA"]
  | .SHY => ["SYA", "SAY"]
  | .SHX => ["SXA", "XAS"]
  | .TAS => ["SHS", "XAS"]
  | .LAS => ["LAR", "LAE"]
  | .KIL => ["JAM", "HLT", "STP"]
  | .NOP => ["DOP", "SKB", "TOP", "SKW"]
  | .SBC => ["USBC"]
  | _ => []

end Sys2Proof

namespace Sys2Proof.Machine

/-- One hexadecimal digit, capital. -/
def hexDigit (n : Nat) : Char := if n < 10 then Char.ofNat (48 + n) else Char.ofNat (55 + n)

/-- A byte in two hexadecimal digits. -/
def hexByte (b : Byte) : String := String.ofList [hexDigit (b.toNat / 16), hexDigit (b.toNat % 16)]

/-- A word in four hexadecimal digits. -/
def hexWord (w : Addr) : String := hexByte (hi w) ++ hexByte (lo w)

/-- The operand in the spelling of rule R111, `next` being the address of the next instruction; for REL the computed
target (R126); the accumulator forms of the shifts are spelled with `A` (log 18). -/
def operandText (m : Mnemonic) (o : Operand) (next : Addr) : String :=
  match o with
  | .imp => if m = .ASL ∨ m = .LSR ∨ m = .ROL ∨ m = .ROR then " A" else ""
  | .imm d => " #$" ++ hexByte d
  | .zp0 d => " $" ++ hexByte d
  | .zpx d => " $" ++ hexByte d ++ ",X"
  | .zpy d => " $" ++ hexByte d ++ ",Y"
  | .rel d => " $" ++ hexWord (next + sext d)
  | .izx d => " ($" ++ hexByte d ++ ",X)"
  | .izy d => " ($" ++ hexByte d ++ "),Y"
  | .ind a => " ($" ++ hexWord a ++ ")"
  | .abs a => " $" ++ hexWord a
  | .abx a => " $" ++ hexWord a ++ ",X"
  | .aby a => " $" ++ hexWord a ++ ",Y"

/-- The instruction at `a`, read with `BusPeek` (R126). -/
def peekInstr (s : State) (a : Addr) : Instr :=
  match opcodeShape (busPeek s a) with
  | .one i => i
  | .two f => f (busPeek s (a + 1#16))
  | .three f => f (cat (busPeek s (a + 2#16)) (busPeek s (a + 1#16)))

/-- The line of the instruction at `a` (R126): the address, the mnemonic, the operand and the mode's name in braces. -/
def disassembleLine (s : State) (a : Addr) : String :=
  let i := peekInstr s a
  hexWord a ++ ": " ++ i.mnem.name ++ operandText i.mnem i.operand (a + BitVec.ofNat 16 i.length) ++ " " ++
    String.ofList [Char.ofNat 123] ++ i.mode.name ++ String.ofList [Char.ofNat 125]

/-- The lines of the instructions that start in the `n` bytes from `a` on (R126), each at `a + LEN(mode)` after the one
before; the first argument bounds the number of lines and is `n` in use. -/
def disassembleFrom (s : State) : Nat → Addr → Nat → List String
  | 0, _, _ => []
  | fuel + 1, a, n =>
    if n = 0 then []
    else
      let k := (peekInstr s a).length
      disassembleLine s a :: disassembleFrom s fuel (a + BitVec.ofNat 16 k) (n - k)

/-- The disassembly of the `n` bytes from `a` on (R126, R413). -/
def disassemble (s : State) (a : Addr) (n : Nat) : List String := disassembleFrom s n a n

end Sys2Proof.Machine
end

