-- ==== Sys2Proof/Tests/Slice0.lean ====
section
/-! SUPPORT. Tests: the well-formedness checks, the decoding of every opcode byte, vectors of spec/95_test_vectors.md (their
ids in the names), the host's entry points, and a witness for the hypotheses of every statement that has some. -/

namespace Sys2Proof.Tests

open Sys2Proof Sys2Proof.Machine

/-! ### Well-formedness: each check refuses an ill-formed source instruction, and accepts the mended one -/

/-- STA has no immediate mode (R153, R117). -/
theorem test_wf_refuses_mode : (Source.mk .STA .IMM 0x10).wf = false ∧ (Source.mk .STA .ZP0 0x10).wf = true := by decide

/-- A zero-page operand is one byte, an absolute one two (R112, R113). -/
theorem test_wf_refuses_wide_operand :
    (Source.mk .LDA .ZP0 0x100).wf = false ∧ (Source.mk .LDA .ABS 0x100).wf = true ∧
      (Source.mk .JMP .ABS 0x10000).wf = false := by decide

/-- Mode IMP has no operand (R134). -/
theorem test_wf_refuses_implied_operand : (Source.mk .TAX .IMP 1).wf = false ∧ (Source.mk .TAX .IMP 0).wf = true := by decide

/-! ### Decoding: the sixteen rows of the matrix of R114, operand bytes 0x34 and 0x12, one byte 0xEE following -/

/-- Row 0x of the matrix of R114; operand bytes by R112. -/
theorem test_decode_row0 :
    decode [0x00#8, 0xEE#8] = .ok (.brkImp, [0xEE#8]) ∧
    decode [0x01#8, 0x34#8, 0xEE#8] = .ok (.oraIzx 0x34#8, [0xEE#8]) ∧
    decode [0x02#8, 0xEE#8] = .ok (.kilImp02, [0xEE#8]) ∧
    decode [0x03#8, 0x34#8, 0xEE#8] = .ok (.sloIzx 0x34#8, [0xEE#8]) ∧
    decode [0x04#8, 0x34#8, 0xEE#8] = .ok (.nopZp004 0x34#8, [0xEE#8]) ∧
    decode [0x05#8, 0x34#8, 0xEE#8] = .ok (.oraZp0 0x34#8, [0xEE#8]) ∧
    decode [0x06#8, 0x34#8, 0xEE#8] = .ok (.aslZp0 0x34#8, [0xEE#8]) ∧
    decode [0x07#8, 0x34#8, 0xEE#8] = .ok (.sloZp0 0x34#8, [0xEE#8]) ∧
    decode [0x08#8, 0xEE#8] = .ok (.phpImp, [0xEE#8]) ∧
    decode [0x09#8, 0x34#8, 0xEE#8] = .ok (.oraImm 0x34#8, [0xEE#8]) ∧
    decode [0x0A#8, 0xEE#8] = .ok (.aslImp, [0xEE#8]) ∧
    decode [0x0B#8, 0x34#8, 0xEE#8] = .ok (.ancImm0B 0x34#8, [0xEE#8]) ∧
    decode [0x0C#8, 0x34#8, 0x12#8, 0xEE#8] = .ok (.nopAbs 0x1234#16, [0xEE#8]) ∧
    decode [0x0D#8, 0x34#8, 0x12#8, 0xEE#8] = .ok (.oraAbs 0x1234#16, [0xEE#8]) ∧
    decode [0x0E#8, 0x34#8, 0x12#8, 0xEE#8] = .ok (.aslAbs 0x1234#16, [0xEE#8]) ∧
    decode [0x0F#8, 0x34#8, 0x12#8, 0xEE#8] = .ok (.sloAbs 0x1234#16, [0xEE#8]) := by
  exact ⟨rfl, rfl, rfl, rfl, rfl, rfl, rfl, rfl, rfl, rfl, rfl, rfl, rfl, rfl, rfl, rfl⟩

/-- Row 1x of the matrix of R114; operand bytes by R112. -/
theorem test_decode_row1 :
    decode [0x10#8, 0x34#8, 0xEE#8] = .ok (.bplRel 0x34#8, [0xEE#8]) ∧
    decode [0x11#8, 0x34#8, 0xEE#8] = .ok (.oraIzy 0x34#8, [0xEE#8]) ∧
    decode [0x12#8, 0xEE#8] = .ok (.kilImp12, [0xEE#8]) ∧
    decode [0x13#8, 0x34#8, 0xEE#8] = .ok (.sloIzy 0x34#8, [0xEE#8]) ∧
    decode [0x14#8, 0x34#8, 0xEE#8] = .ok (.nopZpx14 0x34#8, [0xEE#8]) ∧
    decode [0x15#8, 0x34#8, 0xEE#8] = .ok (.oraZpx 0x34#8, [0xEE#8]) ∧
    decode [0x16#8, 0x34#8, 0xEE#8] = .ok (.aslZpx 0x34#8, [0xEE#8]) ∧
    decode [0x17#8, 0x34#8, 0xEE#8] = .ok (.sloZpx 0x34#8, [0xEE#8]) ∧
    decode [0x18#8, 0xEE#8] = .ok (.clcImp, [0xEE#8]) ∧
    decode [0x19#8, 0x34#8, 0x12#8, 0xEE#8] = .ok (.oraAby 0x1234#16, [0xEE#8]) ∧
    decode [0x1A#8, 0xEE#8] = .ok (.nopImp1A, [0xEE#8]) ∧
    decode [0x1B#8, 0x34#8, 0x12#8, 0xEE#8] = .ok (.sloAby 0x1234#16, [0xEE#8]) ∧
    decode [0x1C#8, 0x34#8, 0x12#8, 0xEE#8] = .ok (.nopAbx1C 0x1234#16, [0xEE#8]) ∧
    decode [0x1D#8, 0x34#8, 0x12#8, 0xEE#8] = .ok (.oraAbx 0x1234#16, [0xEE#8]) ∧
    decode [0x1E#8, 0x34#8, 0x12#8, 0xEE#8] = .ok (.aslAbx 0x1234#16, [0xEE#8]) ∧
    decode [0x1F#8, 0x34#8, 0x12#8, 0xEE#8] = .ok (.sloAbx 0x1234#16, [0xEE#8]) := by
  exact ⟨rfl, rfl, rfl, rfl, rfl, rfl, rfl, rfl, rfl, rfl, rfl, rfl, rfl, rfl, rfl, rfl⟩

/-- Row 2x of the matrix of R114; operand bytes by R112. -/
theorem test_decode_row2 :
    decode [0x20#8, 0x34#8, 0x12#8, 0xEE#8] = .ok (.jsrAbs 0x1234#16, [0xEE#8]) ∧
    decode [0x21#8, 0x34#8, 0xEE#8] = .ok (.andIzx 0x34#8, [0xEE#8]) ∧
    decode [0x22#8, 0xEE#8] = .ok (.kilImp22, [0xEE#8]) ∧
    decode [0x23#8, 0x34#8, 0xEE#8] = .ok (.rlaIzx 0x34#8, [0xEE#8]) ∧
    decode [0x24#8, 0x34#8, 0xEE#8] = .ok (.bitZp0 0x34#8, [0xEE#8]) ∧
    decode [0x25#8, 0x34#8, 0xEE#8] = .ok (.andZp0 0x34#8, [0xEE#8]) ∧
    decode [0x26#8, 0x34#8, 0xEE#8] = .ok (.rolZp0 0x34#8, [0xEE#8]) ∧
    decode [0x27#8, 0x34#8, 0xEE#8] = .ok (.rlaZp0 0x34#8, [0xEE#8]) ∧
    decode [0x28#8, 0xEE#8] = .ok (.plpImp, [0xEE#8]) ∧
    decode [0x29#8, 0x34#8, 0xEE#8] = .ok (.andImm 0x34#8, [0xEE#8]) ∧
    decode [0x2A#8, 0xEE#8] = .ok (.rolImp, [0xEE#8]) ∧
    decode [0x2B#8, 0x34#8, 0xEE#8] = .ok (.ancImm2B 0x34#8, [0xEE#8]) ∧
    decode [0x2C#8, 0x34#8, 0x12#8, 0xEE#8] = .ok (.bitAbs 0x1234#16, [0xEE#8]) ∧
    decode [0x2D#8, 0x34#8, 0x12#8, 0xEE#8] = .ok (.andAbs 0x1234#16, [0xEE#8]) ∧
    decode [0x2E#8, 0x34#8, 0x12#8, 0xEE#8] = .ok (.rolAbs 0x1234#16, [0xEE#8]) ∧
    decode [0x2F#8, 0x34#8, 0x12#8, 0xEE#8] = .ok (.rlaAbs 0x1234#16, [0xEE#8]) := by
  exact ⟨rfl, rfl, rfl, rfl, rfl, rfl, rfl, rfl, rfl, rfl, rfl, rfl, rfl, rfl, rfl, rfl⟩

/-- Row 3x of the matrix of R114; operand bytes by R112. -/
theorem test_decode_row3 :
    decode [0x30#8, 0x34#8, 0xEE#8] = .ok (.bmiRel 0x34#8, [0xEE#8]) ∧
    decode [0x31#8, 0x34#8, 0xEE#8] = .ok (.andIzy 0x34#8, [0xEE#8]) ∧
    decode [0x32#8, 0xEE#8] = .ok (.kilImp32, [0xEE#8]) ∧
    decode [0x33#8, 0x34#8, 0xEE#8] = .ok (.rlaIzy 0x34#8, [0xEE#8]) ∧
    decode [0x34#8, 0x34#8, 0xEE#8] = .ok (.nopZpx34 0x34#8, [0xEE#8]) ∧
    decode [0x35#8, 0x34#8, 0xEE#8] = .ok (.andZpx 0x34#8, [0xEE#8]) ∧
    decode [0x36#8, 0x34#8, 0xEE#8] = .ok (.rolZpx 0x34#8, [0xEE#8]) ∧
    decode [0x37#8, 0x34#8, 0xEE#8] = .ok (.rlaZpx 0x34#8, [0xEE#8]) ∧
    decode [0x38#8, 0xEE#8] = .ok (.secImp, [0xEE#8]) ∧
    decode [0x39#8, 0x34#8, 0x12#8, 0xEE#8] = .ok (.andAby 0x1234#16, [0xEE#8]) ∧
    decode [0x3A#8, 0xEE#8] = .ok (.nopImp3A, [0xEE#8]) ∧
    decode [0x3B#8, 0x34#8, 0x12#8, 0xEE#8] = .ok (.rlaAby 0x1234#16, [0xEE#8]) ∧
    decode [0x3C#8, 0x34#8, 0x12#8, 0xEE#8] = .ok (.nopAbx3C 0x1234#16, [0xEE#8]) ∧
    decode [0x3D#8, 0x34#8, 0x12#8, 0xEE#8] = .ok (.andAbx 0x1234#16, [0xEE#8]) ∧
    decode [0x3E#8, 0x34#8, 0x12#8, 0xEE#8] = .ok (.rolAbx 0x1234#16, [0xEE#8]) ∧
    decode [0x3F#8, 0x34#8, 0x12#8, 0xEE#8] = .ok (.rlaAbx 0x1234#16, [0xEE#8]) := by
  exact ⟨rfl, rfl, rfl, rfl, rfl, rfl, rfl, rfl, rfl, rfl, rfl, rfl, rfl, rfl, rfl, rfl⟩

/-- Row 4x of the matrix of R114; operand bytes by R112. -/
theorem test_decode_row4 :
    decode [0x40#8, 0xEE#8] = .ok (.rtiImp, [0xEE#8]) ∧
    decode [0x41#8, 0x34#8, 0xEE#8] = .ok (.eorIzx 0x34#8, [0xEE#8]) ∧
    decode [0x42#8, 0xEE#8] = .ok (.kilImp42, [0xEE#8]) ∧
    decode [0x43#8, 0x34#8, 0xEE#8] = .ok (.sreIzx 0x34#8, [0xEE#8]) ∧
    decode [0x44#8, 0x34#8, 0xEE#8] = .ok (.nopZp044 0x34#8, [0xEE#8]) ∧
    decode [0x45#8, 0x34#8, 0xEE#8] = .ok (.eorZp0 0x34#8, [0xEE#8]) ∧
    decode [0x46#8, 0x34#8, 0xEE#8] = .ok (.lsrZp0 0x34#8, [0xEE#8]) ∧
    decode [0x47#8, 0x34#8, 0xEE#8] = .ok (.sreZp0 0x34#8, [0xEE#8]) ∧
    decode [0x48#8, 0xEE#8] = .ok (.phaImp, [0xEE#8]) ∧
    decode [0x49#8, 0x34#8, 0xEE#8] = .ok (.eorImm 0x34#8, [0xEE#8]) ∧
    decode [0x4A#8, 0xEE#8] = .ok (.lsrImp, [0xEE#8]) ∧
    decode [0x4B#8, 0x34#8, 0xEE#8] = .ok (.alrImm 0x34#8, [0xEE#8]) ∧
    decode [0x4C#8, 0x34#8, 0x12#8, 0xEE#8] = .ok (.jmpAbs 0x1234#16, [0xEE#8]) ∧
    decode [0x4D#8, 0x34#8, 0x12#8, 0xEE#8] = .ok (.eorAbs 0x1234#16, [0xEE#8]) ∧
    decode [0x4E#8, 0x34#8, 0x12#8, 0xEE#8] = .ok (.lsrAbs 0x1234#16, [0xEE#8]) ∧
    decode [0x4F#8, 0x34#8, 0x12#8, 0xEE#8] = .ok (.sreAbs 0x1234#16, [0xEE#8]) := by
  exact ⟨rfl, rfl, rfl, rfl, rfl, rfl, rfl, rfl, rfl, rfl, rfl, rfl, rfl, rfl, rfl, rfl⟩

/-- Row 5x of the matrix of R114; operand bytes by R112. -/
theorem test_decode_row5 :
    decode [0x50#8, 0x34#8, 0xEE#8] = .ok (.bvcRel 0x34#8, [0xEE#8]) ∧
    decode [0x51#8, 0x34#8, 0xEE#8] = .ok (.eorIzy 0x34#8, [0xEE#8]) ∧
    decode [0x52#8, 0xEE#8] = .ok (.kilImp52, [0xEE#8]) ∧
    decode [0x53#8, 0x34#8, 0xEE#8] = .ok (.sreIzy 0x34#8, [0xEE#8]) ∧
    decode [0x54#8, 0x34#8, 0xEE#8] = .ok (.nopZpx54 0x34#8, [0xEE#8]) ∧
    decode [0x55#8, 0x34#8, 0xEE#8] = .ok (.eorZpx 0x34#8, [0xEE#8]) ∧
    decode [0x56#8, 0x34#8, 0xEE#8] = .ok (.lsrZpx 0x34#8, [0xEE#8]) ∧
    decode [0x57#8, 0x34#8, 0xEE#8] = .ok (.sreZpx 0x34#8, [0xEE#8]) ∧
    decode [0x58#8, 0xEE#8] = .ok (.cliImp, [0xEE#8]) ∧
    decode [0x59#8, 0x34#8, 0x12#8, 0xEE#8] = .ok (.eorAby 0x1234#16, [0xEE#8]) ∧
    decode [0x5A#8, 0xEE#8] = .ok (.nopImp5A, [0xEE#8]) ∧
    decode [0x5B#8, 0x34#8, 0x12#8, 0xEE#8] = .ok (.sreAby 0x1234#16, [0xEE#8]) ∧
    decode [0x5C#8, 0x34#8, 0x12#8, 0xEE#8] = .ok (.nopAbx5C 0x1234#16, [0xEE#8]) ∧
    decode [0x5D#8, 0x34#8, 0x12#8, 0xEE#8] = .ok (.eorAbx 0x1234#16, [0xEE#8]) ∧
    decode [0x5E#8, 0x34#8, 0x12#8, 0xEE#8] = .ok (.lsrAbx 0x1234#16, [0xEE#8]) ∧
    decode [0x5F#8, 0x34#8, 0x12#8, 0xEE#8] = .ok (.sreAbx 0x1234#16, [0xEE#8]) := by
  exact ⟨rfl, rfl, rfl, rfl, rfl, rfl, rfl, rfl, rfl, rfl, rfl, rfl, rfl, rfl, rfl, rfl⟩

/-- Row 6x of the matrix of R114; operand bytes by R112. -/
theorem test_decode_row6 :
    decode [0x60#8, 0xEE#8] = .ok (.rtsImp, [0xEE#8]) ∧
    decode [0x61#8, 0x34#8, 0xEE#8] = .ok (.adcIzx 0x34#8, [0xEE#8]) ∧
    decode [0x62#8, 0xEE#8] = .ok (.kilImp62, [0xEE#8]) ∧
    decode [0x63#8, 0x34#8, 0xEE#8] = .ok (.rraIzx 0x34#8, [0xEE#8]) ∧
    decode [0x64#8, 0x34#8, 0xEE#8] = .ok (.nopZp064 0x34#8, [0xEE#8]) ∧
    decode [0x65#8, 0x34#8, 0xEE#8] = .ok (.adcZp0 0x34#8, [0xEE#8]) ∧
    decode [0x66#8, 0x34#8, 0xEE#8] = .ok (.rorZp0 0x34#8, [0xEE#8]) ∧
    decode [0x67#8, 0x34#8, 0xEE#8] = .ok (.rraZp0 0x34#8, [0xEE#8]) ∧
    decode [0x68#8, 0xEE#8] = .ok (.plaImp, [0xEE#8]) ∧
    decode [0x69#8, 0x34#8, 0xEE#8] = .ok (.adcImm 0x34#8, [0xEE#8]) ∧
    decode [0x6A#8, 0xEE#8] = .ok (.rorImp, [0xEE#8]) ∧
    decode [0x6B#8, 0x34#8, 0xEE#8] = .ok (.arrImm 0x34#8, [0xEE#8]) ∧
    decode [0x6C#8, 0x34#8, 0x12#8, 0xEE#8] = .ok (.jmpInd 0x1234#16, [0xEE#8]) ∧
    decode [0x6D#8, 0x34#8, 0x12#8, 0xEE#8] = .ok (.adcAbs 0x1234#16, [0xEE#8]) ∧
    decode [0x6E#8, 0x34#8, 0x12#8, 0xEE#8] = .ok (.rorAbs 0x1234#16, [0xEE#8]) ∧
    decode [0x6F#8, 0x34#8, 0x12#8, 0xEE#8] = .ok (.rraAbs 0x1234#16, [0xEE#8]) := by
  exact ⟨rfl, rfl, rfl, rfl, rfl, rfl, rfl, rfl, rfl, rfl, rfl, rfl, rfl, rfl, rfl, rfl⟩

/-- Row 7x of the matrix of R114; operand bytes by R112. -/
theorem test_decode_row7 :
    decode [0x70#8, 0x34#8, 0xEE#8] = .ok (.bvsRel 0x34#8, [0xEE#8]) ∧
    decode [0x71#8, 0x34#8, 0xEE#8] = .ok (.adcIzy 0x34#8, [0xEE#8]) ∧
    decode [0x72#8, 0xEE#8] = .ok (.kilImp72, [0xEE#8]) ∧
    decode [0x73#8, 0x34#8, 0xEE#8] = .ok (.rraIzy 0x34#8, [0xEE#8]) ∧
    decode [0x74#8, 0x34#8, 0xEE#8] = .ok (.nopZpx74 0x34#8, [0xEE#8]) ∧
    decode [0x75#8, 0x34#8, 0xEE#8] = .ok (.adcZpx 0x34#8, [0xEE#8]) ∧
    decode [0x76#8, 0x34#8, 0xEE#8] = .ok (.rorZpx 0x34#8, [0xEE#8]) ∧
    decode [0x77#8, 0x34#8, 0xEE#8] = .ok (.rraZpx 0x34#8, [0xEE#8]) ∧
    decode [0x78#8, 0xEE#8] = .ok (.seiImp, [0xEE#8]) ∧
    decode [0x79#8, 0x34#8, 0x12#8, 0xEE#8] = .ok (.adcAby 0x1234#16, [0xEE#8]) ∧
    decode [0x7A#8, 0xEE#8] = .ok (.nopImp7A, [0xEE#8]) ∧
    decode [0x7B#8, 0x34#8, 0x12#8, 0xEE#8] = .ok (.rraAby 0x1234#16, [0xEE#8]) ∧
    decode [0x7C#8, 0x34#8, 0x12#8, 0xEE#8] = .ok (.nopAbx7C 0x1234#16, [0xEE#8]) ∧
    decode [0x7D#8, 0x34#8, 0x12#8, 0xEE#8] = .ok (.adcAbx 0x1234#16, [0xEE#8]) ∧
    decode [0x7E#8, 0x34#8, 0x12#8, 0xEE#8] = .ok (.rorAbx 0x1234#16, [0xEE#8]) ∧
    decode [0x7F#8, 0x34#8, 0x12#8, 0xEE#8] = .ok (.rraAbx 0x1234#16, [0xEE#8]) := by
  exact ⟨rfl, rfl, rfl, rfl, rfl, rfl, rfl, rfl, rfl, rfl, rfl, rfl, rfl, rfl, rfl, rfl⟩

/-- Row 8x of the matrix of R114; operand bytes by R112. -/
theorem test_decode_row8 :
    decode [0x80#8, 0x34#8, 0xEE#8] = .ok (.nopImm80 0x34#8, [0xEE#8]) ∧
    decode [0x81#8, 0x34#8, 0xEE#8] = .ok (.staIzx 0x34#8, [0xEE#8]) ∧
    decode [0x82#8, 0x34#8, 0xEE#8] = .ok (.nopImm82 0x34#8, [0xEE#8]) ∧
    decode [0x83#8, 0x34#8, 0xEE#8] = .ok (.saxIzx 0x34#8, [0xEE#8]) ∧
    decode [0x84#8, 0x34#8, 0xEE#8] = .ok (.styZp0 0x34#8, [0xEE#8]) ∧
    decode [0x85#8, 0x34#8, 0xEE#8] = .ok (.staZp0 0x34#8, [0xEE#8]) ∧
    decode [0x86#8, 0x34#8, 0xEE#8] = .ok (.stxZp0 0x34#8, [0xEE#8]) ∧
    decode [0x87#8, 0x34#8, 0xEE#8] = .ok (.saxZp0 0x34#8, [0xEE#8]) ∧
    decode [0x88#8, 0xEE#8] = .ok (.deyImp, [0xEE#8]) ∧
    decode [0x89#8, 0x34#8, 0xEE#8] = .ok (.nopImm89 0x34#8, [0xEE#8]) ∧
    decode [0x8A#8, 0xEE#8] = .ok (.txaImp, [0xEE#8]) ∧
    decode [0x8B#8, 0x34#8, 0xEE#8] = .ok (.xaaImm 0x34#8, [0xEE#8]) ∧
    decode [0x8C#8, 0x34#8, 0x12#8, 0xEE#8] = .ok (.styAbs 0x1234#16, [0xEE#8]) ∧
    decode [0x8D#8, 0x34#8, 0x12#8, 0xEE#8] = .ok (.staAbs 0x1234#16, [0xEE#8]) ∧
    decode [0x8E#8, 0x34#8, 0x12#8, 0xEE#8] = .ok (.stxAbs 0x1234#16, [0xEE#8]) ∧
    decode [0x8F#8, 0x34#8, 0x12#8, 0xEE#8] = .ok (.saxAbs 0x1234#16, [0xEE#8]) := by
  exact ⟨rfl, rfl, rfl, rfl, rfl, rfl, rfl, rfl, rfl, rfl, rfl, rfl, rfl, rfl, rfl, rfl⟩

/-- Row 9x of the matrix of R114; operand bytes by R112. -/
theorem test_decode_row9 :
    decode [0x90#8, 0x34#8, 0xEE#8] = .ok (.bccRel 0x34#8, [0xEE#8]) ∧
    decode [0x91#8, 0x34#8, 0xEE#8] = .ok (.staIzy 0x34#8, [0xEE#8]) ∧
    decode [0x92#8, 0xEE#8] = .ok (.kilImp92, [0xEE#8]) ∧
    decode [0x93#8, 0x34#8, 0xEE#8] = .ok (.ahxIzy 0x34#8, [0xEE#8]) ∧
    decode [0x94#8, 0x34#8, 0xEE#8] = .ok (.styZpx 0x34#8, [0xEE#8]) ∧
    decode [0x95#8, 0x34#8, 0xEE#8] = .ok (.staZpx 0x34#8, [0xEE#8]) ∧
    decode [0x96#8, 0x34#8, 0xEE#8] = .ok (.stxZpy 0x34#8, [0xEE#8]) ∧
    decode [0x97#8, 0x34#8, 0xEE#8] = .ok (.saxZpy 0x34#8, [0xEE#8]) ∧
    decode [0x98#8, 0xEE#8] = .ok (.tyaImp, [0xEE#8]) ∧
    decode [0x99#8, 0x34#8, 0x12#8, 0xEE#8] = .ok (.staAby 0x1234#16, [0xEE#8]) ∧
    decode [0x9A#8, 0xEE#8] = .ok (.txsImp, [0xEE#8]) ∧
    decode [0x9B#8, 0x34#8, 0x12#8, 0xEE#8] = .ok (.tasAby 0x1234#16, [0xEE#8]) ∧
    decode [0x9C#8, 0x34#8, 0x12#8, 0xEE#8] = .ok (.shyAbx 0x1234#16, [0xEE#8]) ∧
    decode [0x9D#8, 0x34#8, 0x12#8, 0xEE#8] = .ok (.staAbx 0x1234#16, [0xEE#8]) ∧
    decode [0x9E#8, 0x34#8, 0x12#8, 0xEE#8] = .ok (.shxAby 0x1234#16, [0xEE#8]) ∧
    decode [0x9F#8, 0x34#8, 0x12#8, 0xEE#8] = .ok (.ahxAby 0x1234#16, [0xEE#8]) := by
  exact ⟨rfl, rfl, rfl, rfl, rfl, rfl, rfl, rfl, rfl, rfl, rfl, rfl, rfl, rfl, rfl, rfl⟩

/-- Row Ax of the matrix of R114; operand bytes by R112. -/
theorem test_decode_rowA :
    decode [0xA0#8, 0x34#8, 0xEE#8] = .ok (.ldyImm 0x34#8, [0xEE#8]) ∧
    decode [0xA1#8, 0x34#8, 0xEE#8] = .ok (.ldaIzx 0x34#8, [0xEE#8]) ∧
    decode [0xA2#8, 0x34#8, 0xEE#8] = .ok (.ldxImm 0x34#8, [0xEE#8]) ∧
    decode [0xA3#8, 0x34#8, 0xEE#8] = .ok (.laxIzx 0x34#8, [0xEE#8]) ∧
    decode [0xA4#8, 0x34#8, 0xEE#8] = .ok (.ldyZp0 0x34#8, [0xEE#8]) ∧
    decode [0xA5#8, 0x34#8, 0xEE#8] = .ok (.ldaZp0 0x34#8, [0xEE#8]) ∧
    decode [0xA6#8, 0x34#8, 0xEE#8] = .ok (.ldxZp0 0x34#8, [0xEE#8]) ∧
    decode [0xA7#8, 0x34#8, 0xEE#8] = .ok (.laxZp0 0x34#8, [0xEE#8]) ∧
    decode [0xA8#8, 0xEE#8] = .ok (.tayImp, [0xEE#8]) ∧
    decode [0xA9#8, 0x34#8, 0xEE#8] = .ok (.ldaImm 0x34#8, [0xEE#8]) ∧
    decode [0xAA#8, 0xEE#8] = .ok (.taxImp, [0xEE#8]) ∧
    decode [0xAB#8, 0x34#8, 0xEE#8] = .ok (.lxaImm 0x34#8, [0xEE#8]) ∧
    decode [0xAC#8, 0x34#8, 0x12#8, 0xEE#8] = .ok (.ldyAbs 0x1234#16, [0xEE#8]) ∧
    decode [0xAD#8, 0x34#8, 0x12#8, 0xEE#8] = .ok (.ldaAbs 0x1234#16, [0xEE#8]) ∧
    decode [0xAE#8, 0x34#8, 0x12#8, 0xEE#8] = .ok (.ldxAbs 0x1234#16, [0xEE#8]) ∧
    decode [0xAF#8, 0x34#8, 0x12#8, 0xEE#8] = .ok (.laxAbs 0x1234#16, [0xEE#8]) := by
  exact ⟨rfl, rfl, rfl, rfl, rfl, rfl, rfl, rfl, rfl, rfl, rfl, rfl, rfl, rfl, rfl, rfl⟩

/-- Row Bx of the matrix of R114; operand bytes by R112. -/
theorem test_decode_rowB :
    decode [0xB0#8, 0x34#8, 0xEE#8] = .ok (.bcsRel 0x34#8, [0xEE#8]) ∧
    decode [0xB1#8, 0x34#8, 0xEE#8] = .ok (.ldaIzy 0x34#8, [0xEE#8]) ∧
    decode [0xB2#8, 0xEE#8] = .ok (.kilImpB2, [0xEE#8]) ∧
    decode [0xB3#8, 0x34#8, 0xEE#8] = .ok (.laxIzy 0x34#8, [0xEE#8]) ∧
    decode [0xB4#8, 0x34#8, 0xEE#8] = .ok (.ldyZpx 0x34#8, [0xEE#8]) ∧
    decode [0xB5#8, 0x34#8, 0xEE#8] = .ok (.ldaZpx 0x34#8, [0xEE#8]) ∧
    decode [0xB6#8, 0x34#8, 0xEE#8] = .ok (.ldxZpy 0x34#8, [0xEE#8]) ∧
    decode [0xB7#8, 0x34#8, 0xEE#8] = .ok (.laxZpy 0x34#8, [0xEE#8]) ∧
    decode [0xB8#8, 0xEE#8] = .ok (.clvImp, [0xEE#8]) ∧
    decode [0xB9#8, 0x34#8, 0x12#8, 0xEE#8] = .ok (.ldaAby 0x1234#16, [0xEE#8]) ∧
    decode [0xBA#8, 0xEE#8] = .ok (.tsxImp, [0xEE#8]) ∧
    decode [0xBB#8, 0x34#8, 0x12#8, 0xEE#8] = .ok (.lasAby 0x1234#16, [0xEE#8]) ∧
    decode [0xBC#8, 0x34#8, 0x12#8, 0xEE#8] = .ok (.ldyAbx 0x1234#16, [0xEE#8]) ∧
    decode [0xBD#8, 0x34#8, 0x12#8, 0xEE#8] = .ok (.ldaAbx 0x1234#16, [0xEE#8]) ∧
    decode [0xBE#8, 0x34#8, 0x12#8, 0xEE#8] = .ok (.ldxAby 0x1234#16, [0xEE#8]) ∧
    decode [0xBF#8, 0x34#8, 0x12#8, 0xEE#8] = .ok (.laxAby 0x1234#16, [0xEE#8]) := by
  exact ⟨rfl, rfl, rfl, rfl, rfl, rfl, rfl, rfl, rfl, rfl, rfl, rfl, rfl, rfl, rfl, rfl⟩

/-- Row Cx of the matrix of R114; operand bytes by R112. -/
theorem test_decode_rowC :
    decode [0xC0#8, 0x34#8, 0xEE#8] = .ok (.cpyImm 0x34#8, [0xEE#8]) ∧
    decode [0xC1#8, 0x34#8, 0xEE#8] = .ok (.cmpIzx 0x34#8, [0xEE#8]) ∧
    decode [0xC2#8, 0x34#8, 0xEE#8] = .ok (.nopImmC2 0x34#8, [0xEE#8]) ∧
    decode [0xC3#8, 0x34#8, 0xEE#8] = .ok (.dcpIzx 0x34#8, [0xEE#8]) ∧
    decode [0xC4#8, 0x34#8, 0xEE#8] = .ok (.cpyZp0 0x34#8, [0xEE#8]) ∧
    decode [0xC5#8, 0x34#8, 0xEE#8] = .ok (.cmpZp0 0x34#8, [0xEE#8]) ∧
    decode [0xC6#8, 0x34#8, 0xEE#8] = .ok (.decZp0 0x34#8, [0xEE#8]) ∧
    decode [0xC7#8, 0x34#8, 0xEE#8] = .ok (.dcpZp0 0x34#8, [0xEE#8]) ∧
    decode [0xC8#8, 0xEE#8] = .ok (.inyImp, [0xEE#8]) ∧
    decode [0xC9#8, 0x34#8, 0xEE#8] = .ok (.cmpImm 0x34#8, [0xEE#8]) ∧
    decode [0xCA#8, 0xEE#8] = .ok (.dexImp, [0xEE#8]) ∧
    decode [0xCB#8, 0x34#8, 0xEE#8] = .ok (.axsImm 0x34#8, [0xEE#8]) ∧
    decode [0xCC#8, 0x34#8, 0x12#8, 0xEE#8] = .ok (.cpyAbs 0x1234#16, [0xEE#8]) ∧
    decode [0xCD#8, 0x34#8, 0x12#8, 0xEE#8] = .ok (.cmpAbs 0x1234#16, [0xEE#8]) ∧
    decode [0xCE#8, 0x34#8, 0x12#8, 0xEE#8] = .ok (.decAbs 0x1234#16, [0xEE#8]) ∧
    decode [0xCF#8, 0x34#8, 0x12#8, 0xEE#8] = .ok (.dcpAbs 0x1234#16, [0xEE#8]) := by
  exact ⟨rfl, rfl, rfl, rfl, rfl, rfl, rfl, rfl, rfl, rfl, rfl, rfl, rfl, rfl, rfl, rfl⟩

/-- Row Dx of the matrix of R114; operand bytes by R112. -/
theorem test_decode_rowD :
    decode [0xD0#8, 0x34#8, 0xEE#8] = .ok (.bneRel 0x34#8, [0xEE#8]) ∧
    decode [0xD1#8, 0x34#8, 0xEE#8] = .ok (.cmpIzy 0x34#8, [0xEE#8]) ∧
    decode [0xD2#8, 0xEE#8] = .ok (.kilImpD2, [0xEE#8]) ∧
    decode [0xD3#8, 0x34#8, 0xEE#8] = .ok (.dcpIzy 0x34#8, [0xEE#8]) ∧
    decode [0xD4#8, 0x34#8, 0xEE#8] = .ok (.nopZpxD4 0x34#8, [0xEE#8]) ∧
    decode [0xD5#8, 0x34#8, 0xEE#8] = .ok (.cmpZpx 0x34#8, [0xEE#8]) ∧
    decode [0xD6#8, 0x34#8, 0xEE#8] = .ok (.decZpx 0x34#8, [0xEE#8]) ∧
    decode [0xD7#8, 0x34#8, 0xEE#8] = .ok (.dcpZpx 0x34#8, [0xEE#8]) ∧
    decode [0xD8#8, 0xEE#8] = .ok (.cldImp, [0xEE#8]) ∧
    decode [0xD9#8, 0x34#8, 0x12#8, 0xEE#8] = .ok (.cmpAby 0x1234#16, [0xEE#8]) ∧
    decode [0xDA#8, 0xEE#8] = .ok (.nopImpDA, [0xEE#8]) ∧
    decode [0xDB#8, 0x34#8, 0x12#8, 0xEE#8] = .ok (.dcpAby 0x1234#16, [0xEE#8]) ∧
    decode [0xDC#8, 0x34#8, 0x12#8, 0xEE#8] = .ok (.nopAbxDC 0x1234#16, [0xEE#8]) ∧
    decode [0xDD#8, 0x34#8, 0x12#8, 0xEE#8] = .ok (.cmpAbx 0x1234#16, [0xEE#8]) ∧
    decode [0xDE#8, 0x34#8, 0x12#8, 0xEE#8] = .ok (.decAbx 0x1234#16, [0xEE#8]) ∧
    decode [0xDF#8, 0x34#8, 0x12#8, 0xEE#8] = .ok (.dcpAbx 0x1234#16, [0xEE#8]) := by
  exact ⟨rfl, rfl, rfl, rfl, rfl, rfl, rfl, rfl, rfl, rfl, rfl, rfl, rfl, rfl, rfl, rfl⟩

/-- Row Ex of the matrix of R114; operand bytes by R112. -/
theorem test_decode_rowE :
    decode [0xE0#8, 0x34#8, 0xEE#8] = .ok (.cpxImm 0x34#8, [0xEE#8]) ∧
    decode [0xE1#8, 0x34#8, 0xEE#8] = .ok (.sbcIzx 0x34#8, [0xEE#8]) ∧
    decode [0xE2#8, 0x34#8, 0xEE#8] = .ok (.nopImmE2 0x34#8, [0xEE#8]) ∧
    decode [0xE3#8, 0x34#8, 0xEE#8] = .ok (.iscIzx 0x34#8, [0xEE#8]) ∧
    decode [0xE4#8, 0x34#8, 0xEE#8] = .ok (.cpxZp0 0x34#8, [0xEE#8]) ∧
    decode [0xE5#8, 0x34#8, 0xEE#8] = .ok (.sbcZp0 0x34#8, [0xEE#8]) ∧
    decode [0xE6#8, 0x34#8, 0xEE#8] = .ok (.incZp0 0x34#8, [0xEE#8]) ∧
    decode [0xE7#8, 0x34#8, 0xEE#8] = .ok (.iscZp0 0x34#8, [0xEE#8]) ∧
    decode [0xE8#8, 0xEE#8] = .ok (.inxImp, [0xEE#8]) ∧
    decode [0xE9#8, 0x34#8, 0xEE#8] = .ok (.sbcImm 0x34#8, [0xEE#8]) ∧
    decode [0xEA#8, 0xEE#8] = .ok (.nopImp, [0xEE#8]) ∧
    decode [0xEB#8, 0x34#8, 0xEE#8] = .ok (.sbcImmEB 0x34#8, [0xEE#8]) ∧
    decode [0xEC#8, 0x34#8, 0x12#8, 0xEE#8] = .ok (.cpxAbs 0x1234#16, [0xEE#8]) ∧
    decode [0xED#8, 0x34#8, 0x12#8, 0xEE#8] = .ok (.sbcAbs 0x1234#16, [0xEE#8]) ∧
    decode [0xEE#8, 0x34#8, 0x12#8, 0xEE#8] = .ok (.incAbs 0x1234#16, [0xEE#8]) ∧
    decode [0xEF#8, 0x34#8, 0x12#8, 0xEE#8] = .ok (.iscAbs 0x1234#16, [0xEE#8]) := by
  exact ⟨rfl, rfl, rfl, rfl, rfl, rfl, rfl, rfl, rfl, rfl, rfl, rfl, rfl, rfl, rfl, rfl⟩

/-- Row Fx of the matrix of R114; operand bytes by R112. -/
theorem test_decode_rowF :
    decode [0xF0#8, 0x34#8, 0xEE#8] = .ok (.beqRel 0x34#8, [0xEE#8]) ∧
    decode [0xF1#8, 0x34#8, 0xEE#8] = .ok (.sbcIzy 0x34#8, [0xEE#8]) ∧
    decode [0xF2#8, 0xEE#8] = .ok (.kilImpF2, [0xEE#8]) ∧
    decode [0xF3#8, 0x34#8, 0xEE#8] = .ok (.iscIzy 0x34#8, [0xEE#8]) ∧
    decode [0xF4#8, 0x34#8, 0xEE#8] = .ok (.nopZpxF4 0x34#8, [0xEE#8]) ∧
    decode [0xF5#8, 0x34#8, 0xEE#8] = .ok (.sbcZpx 0x34#8, [0xEE#8]) ∧
    decode [0xF6#8, 0x34#8, 0xEE#8] = .ok (.incZpx 0x34#8, [0xEE#8]) ∧
    decode [0xF7#8, 0x34#8, 0xEE#8] = .ok (.iscZpx 0x34#8, [0xEE#8]) ∧
    decode [0xF8#8, 0xEE#8] = .ok (.sedImp, [0xEE#8]) ∧
    decode [0xF9#8, 0x34#8, 0x12#8, 0xEE#8] = .ok (.sbcAby 0x1234#16, [0xEE#8]) ∧
    decode [0xFA#8, 0xEE#8] = .ok (.nopImpFA, [0xEE#8]) ∧
    decode [0xFB#8, 0x34#8, 0x12#8, 0xEE#8] = .ok (.iscAby 0x1234#16, [0xEE#8]) ∧
    decode [0xFC#8, 0x34#8, 0x12#8, 0xEE#8] = .ok (.nopAbxFC 0x1234#16, [0xEE#8]) ∧
    decode [0xFD#8, 0x34#8, 0x12#8, 0xEE#8] = .ok (.sbcAbx 0x1234#16, [0xEE#8]) ∧
    decode [0xFE#8, 0x34#8, 0x12#8, 0xEE#8] = .ok (.incAbx 0x1234#16, [0xEE#8]) ∧
    decode [0xFF#8, 0x34#8, 0x12#8, 0xEE#8] = .ok (.iscAbx 0x1234#16, [0xEE#8]) := by
  exact ⟨rfl, rfl, rfl, rfl, rfl, rfl, rfl, rfl, rfl, rfl, rfl, rfl, rfl, rfl, rfl, rfl⟩

/-- The rows of the table name the mnemonics, modes and base counts of the matrix: the counts of R115 by mode. -/
theorem test_table_counts :
    (opcodeTable.filter (fun r => r.2.1 = .IMP)).length = 47 ∧
    (opcodeTable.filter (fun r => r.2.1 = .IMM)).length = 24 ∧
    (opcodeTable.filter (fun r => r.2.1 = .ZP0)).length = 32 ∧
    (opcodeTable.filter (fun r => r.2.1 = .ZPX)).length = 28 ∧
    (opcodeTable.filter (fun r => r.2.1 = .ZPY)).length = 4 ∧
    (opcodeTable.filter (fun r => r.2.1 = .REL)).length = 8 ∧
    (opcodeTable.filter (fun r => r.2.1 = .IZX)).length = 16 ∧
    (opcodeTable.filter (fun r => r.2.1 = .IZY)).length = 16 ∧
    (opcodeTable.filter (fun r => r.2.1 = .IND)).length = 1 ∧
    (opcodeTable.filter (fun r => r.2.1 = .ABS)).length = 32 ∧
    (opcodeTable.filter (fun r => r.2.1 = .ABX)).length = 28 ∧
    (opcodeTable.filter (fun r => r.2.1 = .ABY)).length = 20 := by decide

/-- The encoder writes the opcode, then the operand bytes, low byte first (R110, R112). -/
theorem test_encode :
    encode (.jmpInd 0x02FF#16) = [0x6C#8, 0xFF#8, 0x02#8] ∧ encode (.bneRel 0xFB#8) = [0xD0#8, 0xFB#8] ∧
      encode .rtiImp = [0x40#8] := by exact ⟨rfl, rfl, rfl⟩

/-- A branch target out of reach has no displacement (R120, R215): the instruction's address is 0xC000. -/
theorem test_branch_displacement :
    branchDisplacement 0xC000#16 0xBF82#16 = some 0x80#8 ∧ branchDisplacement 0xC000#16 0xC081#16 = some 0x7F#8 ∧
      branchDisplacement 0xC000#16 0xC082#16 = none := by decide

/-- The host's word for a row: the bits of the table, zeros above them. -/
theorem test_decodeTableWord :
    decodeTableWord 8 0xA9 = some (.ldaImm 0x00#8) ∧ decodeTableWord 16 0x10A9 = some (.ldaImm 0x10#8) ∧
      decodeTableWord 24 0x02FF6C = some (.jmpInd 0x02FF#16) ∧ decodeTableWord 8 0x02 = some .kilImp02 := by
  exact ⟨rfl, rfl, rfl, rfl⟩

/-! ### One instruction on the machine of spec/95 part 0: code in PRG ROM, data in console RAM -/

/-- A memory from its cells. -/
def cells (l : List (Nat × Nat)) : Mem 8 := l.foldl (fun m c => m.write c.1 (BitVec.ofNat 8 c.2)) []

/-- Code bytes from an offset of PRG ROM on. -/
def codeAt (o : Nat) : List Nat → List (Nat × Nat)
  | [] => []
  | b :: rest => (o, b) :: codeAt (o + 1) rest

/-- A CPU from its registers. -/
def regs (a x y sp p pc cyc : Nat) : Cpu :=
  { a := BitVec.ofNat 8 a, x := BitVec.ofNat 8 x, y := BitVec.ofNat 8 y, sp := BitVec.ofNat 8 sp, p := BitVec.ofNat 8 p,
    pc := BitVec.ofNat 16 pc, cyc := cyc, halted := false }

/-- The fixed machine of two PRG banks with `code` at `c.pc` (at or above 0x8000) and `data` in console RAM. -/
def start (c : Cpu) (code : List Nat) (data : List (Nat × Nat)) : State :=
  { State.reset with
    cpu := c, ram := cells data
    cart := { Cart.blank with prg := cells (codeAt (c.pc.toNat - 0x8000) code), prgBanks := 2 } }

/-- A property of the next state. -/
def nextHas (r : Result) (f : State → Bool) : Bool :=
  match r with
  | .next t => f t
  | _ => false

/-- One instruction from `c` gives `d`, console RAM `after`, and changes nothing else. -/
def vec (code : List Nat) (c : Cpu) (data : List (Nat × Nat)) (d : Cpu) (after : List (Nat × Nat)) : Bool :=
  let s := start c code data
  nextHas (executeInstruction s) fun t => decide (t = { s with cpu := d, ram := cells after })


/-! #### Loads, stores, transfers (R150 to R161) and addressing modes (R134 to R145) -/

/-- T-L9: `LDA $FFFF,X`. -/
theorem test_L9 :
    vec [0xBD, 0xFF, 0xFF] (regs 0x00 0x02 0x00 0xFD 0x24 0xC000 0) [(0x0001, 0x44)]
      (regs 0x44 0x02 0x00 0xFD 0x24 0xC003 5) [(0x0001, 0x44)] = true := by decide

/-- T-L12: `LDA ($FE,X)`. -/
theorem test_L12 :
    vec [0xA1, 0xFE] (regs 0x00 0x03 0x00 0xFD 0x24 0xC000 0) [(0x0001, 0x00), (0x0002, 0x03), (0x0300, 0x5A)]
      (regs 0x5A 0x03 0x00 0xFD 0x24 0xC002 6) [(0x0001, 0x00), (0x0002, 0x03), (0x0300, 0x5A)] = true := by decide

/-- T-L15: `LDA ($FF),Y`. -/
theorem test_L15 :
    vec [0xB1, 0xFF] (regs 0x00 0x00 0x01 0xFD 0x24 0xC000 0) [(0x0000, 0x02), (0x00FF, 0xFF), (0x0100, 0x07), (0x0300, 0x23)]
      (regs 0x23 0x00 0x01 0xFD 0x24 0xC002 6) [(0x0000, 0x02), (0x00FF, 0xFF), (0x0100, 0x07), (0x0300, 0x23)] = true := by decide

/-- T-L18: `LDX $02FF,Y`. -/
theorem test_L18 :
    vec [0xBE, 0xFF, 0x02] (regs 0x00 0x00 0x01 0xFD 0x24 0xC000 0) [(0x0300, 0x01)]
      (regs 0x00 0x01 0x01 0xFD 0x24 0xC003 5) [(0x0300, 0x01)] = true := by decide

/-- T-L20: `LDY $02FF,X`. -/
theorem test_L20 :
    vec [0xBC, 0xFF, 0x02] (regs 0x00 0xFF 0x00 0xFD 0x24 0xC000 0) [(0x03FE, 0x00)]
      (regs 0x00 0xFF 0x00 0xFD 0x26 0xC003 5) [(0x03FE, 0x00)] = true := by decide

/-- T-L22: `STA $02FF,X`. -/
theorem test_L22 :
    vec [0x9D, 0xFF, 0x02] (regs 0xAB 0x01 0x00 0xFD 0x24 0xC000 0) []
      (regs 0xAB 0x01 0x00 0xFD 0x24 0xC003 5) [(0x0300, 0xAB)] = true := by decide

/-- T-L26: `STX $F0,Y`. -/
theorem test_L26 :
    vec [0x96, 0xF0] (regs 0x00 0x42 0x11 0xFD 0x24 0xC000 0) []
      (regs 0x00 0x42 0x11 0xFD 0x24 0xC002 4) [(0x0001, 0x42)] = true := by decide

/-- T-L27: `STY $F0,X`. -/
theorem test_L27 :
    vec [0x94, 0xF0] (regs 0x00 0x10 0x43 0xFD 0x24 0xC000 0) []
      (regs 0x00 0x10 0x43 0xFD 0x24 0xC002 4) [(0x0000, 0x43)] = true := by decide

/-- T-L29: `TAX`. -/
theorem test_L29 :
    vec [0xAA] (regs 0x80 0x00 0x00 0xFD 0x24 0xC000 0) []
      (regs 0x80 0x80 0x00 0xFD 0xA4 0xC001 2) [] = true := by decide

/-- T-L30: `TAY`. -/
theorem test_L30 :
    vec [0xA8] (regs 0x00 0x00 0x05 0xFD 0x24 0xC000 0) []
      (regs 0x00 0x00 0x00 0xFD 0x26 0xC001 2) [] = true := by decide

/-- T-L31: `TXA`. -/
theorem test_L31 :
    vec [0x8A] (regs 0x80 0x7F 0x00 0xFD 0xA4 0xC000 0) []
      (regs 0x7F 0x7F 0x00 0xFD 0x24 0xC001 2) [] = true := by decide

/-- T-L32: `TYA`. -/
theorem test_L32 :
    vec [0x98] (regs 0x00 0x00 0xFF 0xFD 0x24 0xC000 0) []
      (regs 0xFF 0x00 0xFF 0xFD 0xA4 0xC001 2) [] = true := by decide

/-- T-L34: `TSX`. -/
theorem test_L34 :
    vec [0xBA] (regs 0x00 0x09 0x00 0x00 0x24 0xC000 0) []
      (regs 0x00 0x00 0x00 0x00 0x26 0xC001 2) [] = true := by decide

/-- T-L35: `TXS`. -/
theorem test_L35 :
    vec [0x9A] (regs 0x00 0x00 0x00 0xFD 0x24 0xC000 0) []
      (regs 0x00 0x00 0x00 0x00 0x24 0xC001 2) [] = true := by decide

/-! #### Arithmetic, logic, compare, increment (R170 to R192) -/

/-- T-A7: `ADC #$90`. -/
theorem test_A7 :
    vec [0x69, 0x90] (regs 0xD0 0x00 0x00 0xFD 0x24 0xC000 0) []
      (regs 0x60 0x00 0x00 0xFD 0x65 0xC002 2) [] = true := by decide

/-- T-A14: `ADC #$01`. -/
theorem test_A14 :
    vec [0x69, 0x01] (regs 0x09 0x00 0x00 0xFD 0x2C 0xC000 0) []
      (regs 0x0A 0x00 0x00 0xFD 0x2C 0xC002 2) [] = true := by decide

/-- T-A25: `SBC #$00`. -/
theorem test_A25 :
    vec [0xE9, 0x00] (regs 0x80 0x00 0x00 0xFD 0x24 0xC000 0) []
      (regs 0x7F 0x00 0x00 0xFD 0x65 0xC002 2) [] = true := by decide

/-- T-A31: `AND #$80`. -/
theorem test_A31 :
    vec [0x29, 0x80] (regs 0xFF 0x00 0x00 0xFD 0x65 0xC000 0) []
      (regs 0x80 0x00 0x00 0xFD 0xE5 0xC002 2) [] = true := by decide

/-- T-A33: `ORA $10`. -/
theorem test_A33 :
    vec [0x05, 0x10] (regs 0x01 0x00 0x00 0xFD 0x24 0xC000 0) [(0x0010, 0x80)]
      (regs 0x81 0x00 0x00 0xFD 0xA4 0xC002 3) [(0x0010, 0x80)] = true := by decide

/-- T-A34: `EOR #$FF`. -/
theorem test_A34 :
    vec [0x49, 0xFF] (regs 0xFF 0x00 0x00 0xFD 0x24 0xC000 0) []
      (regs 0x00 0x00 0x00 0xFD 0x26 0xC002 2) [] = true := by decide

/-- T-A39: `CMP #$00`. -/
theorem test_A39 :
    vec [0xC9, 0x00] (regs 0x80 0x00 0x00 0xFD 0x64 0xC000 0) []
      (regs 0x80 0x00 0x00 0xFD 0xE5 0xC002 2) [] = true := by decide

/-- T-A43: `CPX $10`. -/
theorem test_A43 :
    vec [0xE4, 0x10] (regs 0x00 0x05 0x00 0xFD 0x24 0xC000 0) [(0x0010, 0x04)]
      (regs 0x00 0x05 0x00 0xFD 0x25 0xC002 3) [(0x0010, 0x04)] = true := by decide

/-- T-A46: `CPY $0300`. -/
theorem test_A46 :
    vec [0xCC, 0x00, 0x03] (regs 0x00 0x00 0x80 0xFD 0x24 0xC000 0) [(0x0300, 0x7F)]
      (regs 0x00 0x00 0x80 0xFD 0x25 0xC003 4) [(0x0300, 0x7F)] = true := by decide

/-- T-A48: `BIT $10`. -/
theorem test_A48 :
    vec [0x24, 0x10] (regs 0xFF 0x00 0x00 0xFD 0xE6 0xC000 0) [(0x0010, 0x3F)]
      (regs 0xFF 0x00 0x00 0xFD 0x24 0xC002 3) [(0x0010, 0x3F)] = true := by decide

/-- T-A53: `INC $02FF,X`. -/
theorem test_A53 :
    vec [0xFE, 0xFF, 0x02] (regs 0x00 0x01 0x00 0xFD 0x24 0xC000 0) [(0x0300, 0x00)]
      (regs 0x00 0x01 0x00 0xFD 0x24 0xC003 7) [(0x0300, 0x01)] = true := by decide

/-- T-A55: `DEC $10,X`. -/
theorem test_A55 :
    vec [0xD6, 0x10] (regs 0x00 0xFF 0x00 0xFD 0x24 0xC000 0) [(0x000F, 0x01)]
      (regs 0x00 0xFF 0x00 0xFD 0x26 0xC002 6) [(0x000F, 0x00)] = true := by decide

/-- T-A57: `INX`. -/
theorem test_A57 :
    vec [0xE8] (regs 0x00 0xFF 0x00 0xFD 0x24 0xC000 0) []
      (regs 0x00 0x00 0x00 0xFD 0x26 0xC001 2) [] = true := by decide

/-- T-A59: `INY`. -/
theorem test_A59 :
    vec [0xC8] (regs 0x00 0x00 0xFE 0xFD 0x24 0xC000 0) []
      (regs 0x00 0x00 0xFF 0xFD 0xA4 0xC001 2) [] = true := by decide

/-- T-A60: `DEX`. -/
theorem test_A60 :
    vec [0xCA] (regs 0x00 0x00 0x00 0xFD 0x24 0xC000 0) []
      (regs 0x00 0xFF 0x00 0xFD 0xA4 0xC001 2) [] = true := by decide

/-- T-A62: `DEY`. -/
theorem test_A62 :
    vec [0x88] (regs 0x00 0x00 0x80 0xFD 0x24 0xC000 0) []
      (regs 0x00 0x00 0x7F 0xFD 0x24 0xC001 2) [] = true := by decide

/-! #### Shifts and rotates (R200 to R204) -/

/-- T-H11: `ROR A`. -/
theorem test_H11 :
    vec [0x6A] (regs 0x01 0x00 0x00 0xFD 0x25 0xC000 0) []
      (regs 0x80 0x00 0x00 0xFD 0xA5 0xC001 2) [] = true := by decide

/-- T-H12: `ASL $10`. -/
theorem test_H12 :
    vec [0x06, 0x10] (regs 0x33 0x00 0x00 0xFD 0x24 0xC000 0) [(0x0010, 0x81)]
      (regs 0x33 0x00 0x00 0xFD 0x25 0xC002 5) [(0x0010, 0x02)] = true := by decide

/-- T-H13: `LSR $10,X`. -/
theorem test_H13 :
    vec [0x56, 0x10] (regs 0x00 0x01 0x00 0xFD 0x24 0xC000 0) [(0x0011, 0x02)]
      (regs 0x00 0x01 0x00 0xFD 0x24 0xC002 6) [(0x0011, 0x01)] = true := by decide

/-- T-H14: `ROL $0300`. -/
theorem test_H14 :
    vec [0x2E, 0x00, 0x03] (regs 0x00 0x00 0x00 0xFD 0x25 0xC000 0) [(0x0300, 0x7F)]
      (regs 0x00 0x00 0x00 0xFD 0xA4 0xC003 6) [(0x0300, 0xFF)] = true := by decide

/-- T-H15: `ROR $02FF,X`. -/
theorem test_H15 :
    vec [0x7E, 0xFF, 0x02] (regs 0x00 0x01 0x00 0xFD 0x25 0xC000 0) [(0x0300, 0xFE)]
      (regs 0x00 0x01 0x00 0xFD 0xA4 0xC003 7) [(0x0300, 0xFF)] = true := by decide

/-! #### Control transfer (R210 to R223) -/

/-- T-C3: `JMP ($02FF)`. -/
theorem test_C3 :
    vec [0x6C, 0xFF, 0x02] (regs 0x00 0x00 0x00 0xFD 0x24 0xC000 0) [(0x0200, 0x56), (0x02FF, 0x78), (0x0300, 0x99)]
      (regs 0x00 0x00 0x00 0xFD 0x24 0x5678 5) [(0x0200, 0x56), (0x02FF, 0x78), (0x0300, 0x99)] = true := by decide

/-- T-C5: `JSR $0000`. -/
theorem test_C5 :
    vec [0x20, 0x00, 0x00] (regs 0x00 0x00 0x00 0x00 0x24 0xC0FE 0) []
      (regs 0x00 0x00 0x00 0xFE 0x24 0x0000 6) [(0x0100, 0xC1), (0x01FF, 0x00)] = true := by decide

/-- T-C7: `RTS`. -/
theorem test_C7 :
    vec [0x60] (regs 0x00 0x00 0x00 0xFB 0x24 0xC100 0) [(0x01FC, 0xFF), (0x01FD, 0xFF)]
      (regs 0x00 0x00 0x00 0xFD 0x24 0x0000 6) [(0x01FC, 0xFF), (0x01FD, 0xFF)] = true := by decide

/-- T-C9: `BPL *+$12`. -/
theorem test_C9 :
    vec [0x10, 0x10] (regs 0x00 0x00 0x00 0xFD 0xA4 0xC000 0) []
      (regs 0x00 0x00 0x00 0xFD 0xA4 0xC002 2) [] = true := by decide

/-- T-C12: `BMI *+$12`. -/
theorem test_C12 :
    vec [0x30, 0x10] (regs 0x00 0x00 0x00 0xFD 0xA4 0xC000 0) []
      (regs 0x00 0x00 0x00 0xFD 0xA4 0xC012 3) [] = true := by decide

/-- T-C13: `BVC *+$12`. -/
theorem test_C13 :
    vec [0x50, 0x10] (regs 0x00 0x00 0x00 0xFD 0x64 0xC000 0) []
      (regs 0x00 0x00 0x00 0xFD 0x64 0xC002 2) [] = true := by decide

/-- T-C16: `BVS *+$12`. -/
theorem test_C16 :
    vec [0x70, 0x10] (regs 0x00 0x00 0x00 0xFD 0x64 0xC000 0) []
      (regs 0x00 0x00 0x00 0xFD 0x64 0xC012 3) [] = true := by decide

/-- T-C31: `BCC *+$12`. -/
theorem test_C31 :
    vec [0x90, 0x10] (regs 0x00 0x00 0x00 0xFD 0x24 0xFFF0 0) []
      (regs 0x00 0x00 0x00 0xFD 0x24 0x0002 4) [] = true := by decide

/-- T-C19: `BCS *+$12`. -/
theorem test_C19 :
    vec [0xB0, 0x10] (regs 0x00 0x00 0x00 0xFD 0x24 0xC000 0) []
      (regs 0x00 0x00 0x00 0xFD 0x24 0xC002 2) [] = true := by decide

/-- T-C25: `BNE *-$7E`. -/
theorem test_C25 :
    vec [0xD0, 0x80] (regs 0x00 0x00 0x00 0xFD 0x24 0xC000 0) []
      (regs 0x00 0x00 0x00 0xFD 0x24 0xBF82 4) [] = true := by decide

/-- T-C29: `BNE *`. -/
theorem test_C29 :
    vec [0xD0, 0xFE] (regs 0x00 0x00 0x00 0xFD 0x24 0xC0FE 0) []
      (regs 0x00 0x00 0x00 0xFD 0x24 0xC0FE 4) [] = true := by decide

/-- T-C23: `BEQ *+$12`. -/
theorem test_C23 :
    vec [0xF0, 0x10] (regs 0x00 0x00 0x00 0xFD 0x24 0xC000 0) []
      (regs 0x00 0x00 0x00 0xFD 0x24 0xC002 2) [] = true := by decide

/-- T-C35: `RTI`. -/
theorem test_C35 :
    vec [0x40] (regs 0x00 0x00 0x00 0xFA 0x24 0xD000 0) [(0x01FB, 0xFF), (0x01FC, 0x00), (0x01FD, 0xC0)]
      (regs 0x00 0x00 0x00 0xFD 0xEF 0xC000 6) [(0x01FB, 0xFF), (0x01FC, 0x00), (0x01FD, 0xC0)] = true := by decide

/-! #### Stack and flags (R230 to R241) -/

/-- T-K2: `PHA`. -/
theorem test_K2 :
    vec [0x48] (regs 0x43 0x00 0x00 0x00 0x24 0xC000 0) []
      (regs 0x43 0x00 0x00 0xFF 0x24 0xC001 3) [(0x0100, 0x43)] = true := by decide

/-- T-K4: `PHP`. -/
theorem test_K4 :
    vec [0x08] (regs 0x00 0x00 0x00 0xFD 0xEF 0xC000 0) []
      (regs 0x00 0x00 0x00 0xFC 0xEF 0xC001 3) [(0x01FD, 0xFF)] = true := by decide

/-- T-K6: `PLA`. -/
theorem test_K6 :
    vec [0x68] (regs 0x00 0x00 0x00 0xFF 0x24 0xC000 0) [(0x0100, 0x80)]
      (regs 0x80 0x00 0x00 0x00 0xA4 0xC001 4) [(0x0100, 0x80)] = true := by decide

/-- T-K8: `PLP`. -/
theorem test_K8 :
    vec [0x28] (regs 0x00 0x00 0x00 0xFC 0xEF 0xC000 0) [(0x01FD, 0x00)]
      (regs 0x00 0x00 0x00 0xFD 0x20 0xC001 4) [(0x01FD, 0x00)] = true := by decide

/-- T-K11: `CLC`. -/
theorem test_K11 :
    vec [0x18] (regs 0x00 0x00 0x00 0xFD 0xEF 0xC000 0) []
      (regs 0x00 0x00 0x00 0xFD 0xEE 0xC001 2) [] = true := by decide

/-- T-K12: `SEC`. -/
theorem test_K12 :
    vec [0x38] (regs 0x00 0x00 0x00 0xFD 0x24 0xC000 0) []
      (regs 0x00 0x00 0x00 0xFD 0x25 0xC001 2) [] = true := by decide

/-- T-K13: `CLI`. -/
theorem test_K13 :
    vec [0x58] (regs 0x00 0x00 0x00 0xFD 0x24 0xC000 0) []
      (regs 0x00 0x00 0x00 0xFD 0x20 0xC001 2) [] = true := by decide

/-- T-K14: `SEI`. -/
theorem test_K14 :
    vec [0x78] (regs 0x00 0x00 0x00 0xFD 0x20 0xC000 0) []
      (regs 0x00 0x00 0x00 0xFD 0x24 0xC001 2) [] = true := by decide

/-- T-K15: `CLV`. -/
theorem test_K15 :
    vec [0xB8] (regs 0x00 0x00 0x00 0xFD 0xE4 0xC000 0) []
      (regs 0x00 0x00 0x00 0xFD 0xA4 0xC001 2) [] = true := by decide

/-- T-K16: `CLD`. -/
theorem test_K16 :
    vec [0xD8] (regs 0x00 0x00 0x00 0xFD 0x2C 0xC000 0) []
      (regs 0x00 0x00 0x00 0xFD 0x24 0xC001 2) [] = true := by decide

/-- T-K17: `SED`. -/
theorem test_K17 :
    vec [0xF8] (regs 0x00 0x00 0x00 0xFD 0x24 0xC000 0) []
      (regs 0x00 0x00 0x00 0xFD 0x2C 0xC001 2) [] = true := by decide

/-- T-K18: `NOP`. -/
theorem test_K18 :
    vec [0xEA] (regs 0x00 0x00 0x00 0xFD 0xA5 0xC000 0) []
      (regs 0x00 0x00 0x00 0xFD 0xA5 0xC001 2) [] = true := by decide

/-! #### Undocumented opcodes (R250 to R280) -/

/-- T-I1: `SLO $10`. -/
theorem test_I1 :
    vec [0x07, 0x10] (regs 0x01 0x00 0x00 0xFD 0x24 0xC000 0) [(0x0010, 0x81)]
      (regs 0x03 0x00 0x00 0xFD 0x25 0xC002 5) [(0x0010, 0x02)] = true := by decide

/-- T-I3: `RLA $10`. -/
theorem test_I3 :
    vec [0x27, 0x10] (regs 0xFF 0x00 0x00 0xFD 0x25 0xC000 0) [(0x0010, 0x40)]
      (regs 0x81 0x00 0x00 0xFD 0xA4 0xC002 5) [(0x0010, 0x81)] = true := by decide

/-- T-I4: `SRE $10`. -/
theorem test_I4 :
    vec [0x47, 0x10] (regs 0x40 0x00 0x00 0xFD 0x24 0xC000 0) [(0x0010, 0x81)]
      (regs 0x00 0x00 0x00 0xFD 0x27 0xC002 5) [(0x0010, 0x40)] = true := by decide

/-- T-I6: `RRA $10`. -/
theorem test_I6 :
    vec [0x67, 0x10] (regs 0x7F 0x00 0x00 0xFD 0x24 0xC000 0) [(0x0010, 0x03)]
      (regs 0x81 0x00 0x00 0xFD 0xE4 0xC002 5) [(0x0010, 0x01)] = true := by decide

/-- T-I8: `SAX ($10,X)`. -/
theorem test_I8 :
    vec [0x83, 0x10] (regs 0xFF 0x02 0x00 0xFD 0x24 0xC000 0) [(0x0012, 0x00), (0x0013, 0x03)]
      (regs 0xFF 0x02 0x00 0xFD 0x24 0xC002 6) [(0x0012, 0x00), (0x0013, 0x03), (0x0300, 0x02)] = true := by decide

/-- T-I10: `LAX ($10),Y`. -/
theorem test_I10 :
    vec [0xB3, 0x10] (regs 0x00 0x00 0x01 0xFD 0x24 0xC000 0) [(0x0010, 0xFF), (0x0011, 0x02), (0x0300, 0x00)]
      (regs 0x00 0x00 0x01 0xFD 0x26 0xC002 6) [(0x0010, 0xFF), (0x0011, 0x02), (0x0300, 0x00)] = true := by decide

/-- T-I13: `DCP $10`. -/
theorem test_I13 :
    vec [0xC7, 0x10] (regs 0x00 0x00 0x00 0xFD 0x24 0xC000 0) [(0x0010, 0x00)]
      (regs 0x00 0x00 0x00 0xFD 0x24 0xC002 5) [(0x0010, 0xFF)] = true := by decide

/-- T-I15: `ISC $10`. -/
theorem test_I15 :
    vec [0xE7, 0x10] (regs 0x00 0x00 0x00 0xFD 0x25 0xC000 0) [(0x0010, 0xFF)]
      (regs 0x00 0x00 0x00 0xFD 0x27 0xC002 5) [(0x0010, 0x00)] = true := by decide

/-- T-I16: `ANC #$80`. -/
theorem test_I16 :
    vec [0x0B, 0x80] (regs 0xFF 0x00 0x00 0xFD 0x24 0xC000 0) []
      (regs 0x80 0x00 0x00 0xFD 0xA5 0xC002 2) [] = true := by decide

/-- T-I18: `ALR #$03`. -/
theorem test_I18 :
    vec [0x4B, 0x03] (regs 0xFF 0x00 0x00 0xFD 0x24 0xC000 0) []
      (regs 0x01 0x00 0x00 0xFD 0x25 0xC002 2) [] = true := by decide

/-- T-I21: `ARR #$FF`. -/
theorem test_I21 :
    vec [0x6B, 0xFF] (regs 0x80 0x00 0x00 0xFD 0x24 0xC000 0) []
      (regs 0x40 0x00 0x00 0xFD 0x65 0xC002 2) [] = true := by decide

/-- T-I25: `AXS #$10`. -/
theorem test_I25 :
    vec [0xCB, 0x10] (regs 0xFF 0x0F 0x00 0xFD 0x65 0xC000 0) []
      (regs 0xFF 0xFF 0x00 0xFD 0xE4 0xC002 2) [] = true := by decide

/-- T-I28: `LAS $02FF,Y`. -/
theorem test_I28 :
    vec [0xBB, 0xFF, 0x02] (regs 0x00 0x00 0x01 0x0F 0x24 0xC000 0) [(0x0300, 0xF0)]
      (regs 0x00 0x00 0x01 0x00 0x26 0xC003 5) [(0x0300, 0xF0)] = true := by decide

/-- T-I35: `SHY $02FF,X`. -/
theorem test_I35 :
    vec [0x9C, 0xFF, 0x02] (regs 0x00 0x01 0xFF 0xFD 0x24 0xC000 0) []
      (regs 0x00 0x01 0xFF 0xFD 0x24 0xC003 5) [(0x0300, 0x03)] = true := by decide

/-- T-I37: `SHX $02FF,Y`. -/
theorem test_I37 :
    vec [0x9E, 0xFF, 0x02] (regs 0x00 0x05 0x02 0xFD 0x24 0xC000 0) []
      (regs 0x00 0x05 0x02 0xFD 0x24 0xC003 5) [(0x0101, 0x01)] = true := by decide

/-- T-I40: `AHX ($10),Y`. -/
theorem test_I40 :
    vec [0x93, 0x10] (regs 0xFF 0x06 0x01 0xFD 0x24 0xC000 0) [(0x0010, 0xFF), (0x0011, 0x02)]
      (regs 0xFF 0x06 0x01 0xFD 0x24 0xC002 6) [(0x0010, 0xFF), (0x0011, 0x02), (0x0200, 0x02)] = true := by decide

/-- T-I41: `TAS $0200,Y`. -/
theorem test_I41 :
    vec [0x9B, 0x00, 0x02] (regs 0xF7 0x3F 0x01 0xFD 0x24 0xC000 0) []
      (regs 0xF7 0x3F 0x01 0x37 0x24 0xC003 5) [(0x0201, 0x03)] = true := by decide

/-- T-I48: `NOP $02FF,X (0x1C)`. -/
theorem test_I48 :
    vec [0x1C, 0xFF, 0x02] (regs 0x00 0x01 0x00 0xFD 0x24 0xC000 0) []
      (regs 0x00 0x01 0x00 0xFD 0x24 0xC003 5) [] = true := by decide
/-! #### What the vectors leave to the machine -/

/-- T-C32, in PRG ROM with the vector 0xD000: `BRK` pushes the address after its padding byte and B = 1. -/
theorem test_C32 :
    let c := regs 0 0 0 0xFD 0x24 0xC000 0
    let s := { start c [] [] with cart := { Cart.blank with prg := cells [(0x4001, 0xEA), (0x7FFF, 0xD0)], prgBanks := 2 } }
    nextHas (executeInstruction s) (fun t => decide (t = { s with
      cpu := regs 0 0 0 0xFA 0x24 0xD000 7, ram := cells [(0x01FB, 0x34), (0x01FC, 0x02), (0x01FD, 0xC0)] })) = true := by
  decide

/-- T-I49: `KIL` halts with `PC` after the opcode and owes no cycle (R131). -/
theorem test_I49 :
    let s := start (regs 0 0 0 0xFD 0x24 0xC000 0) [0x02] []
    nextHas (cpuClock s) (fun t => decide (t = { s with
      cpu := { regs 0 0 0 0xFD 0x24 0xC001 0 with halted := true } })) = true := by decide

/-- T-I29 to T-I33 in the open parameters: XAA and LXA for every value of the magic bytes (R266, R267). -/
theorem test_xaa_lxa :
    (∃ t, exec (.xaaImm 0x0F#8) (start (regs 0x11 0x33 0 0xFD 0x24 0xC002 0) [] []) = .next t ∧
      t.cpu.a = (0x11#8 ||| Config.aneMagic) &&& 0x33#8 &&& 0x0F#8) ∧
    (∃ t, exec (.lxaImm 0x0F#8) (start (regs 0x01 0 0 0xFD 0x24 0xC002 0) [] []) = .next t ∧
      t.cpu.a = (0x01#8 ||| Config.lxaMagic) &&& 0x0F#8 ∧ t.cpu.x = t.cpu.a) :=
  ⟨⟨_, rfl, rfl⟩, ⟨_, rfl, rfl, rfl⟩⟩

/-- T-X1: `nmi()` with two cycles owed; the vector is 0x9000. -/
theorem test_X1 :
    let c := { regs 0 0 0 0xFD 0x20 0xC123 2 with halted := false }
    let s := { start c [] [] with cart := { Cart.blank with prg := cells [(0x7FFB, 0x90)], prgBanks := 2 } }
    cpuNmi s = { s with
      cpu := regs 0 0 0 0xFA 0x24 0x9000 9, ram := cells [(0x01FB, 0x20), (0x01FC, 0x23), (0x01FD, 0xC1)] } := by decide

/-- T-X3 and T-X4: `irq()` with I clear and with I set; the vector is 0xA000. -/
theorem test_X3_X4 :
    let at_ := fun (p cyc : Nat) => { start (regs 0 0 0 0xFD p 0xC123 cyc) [] [] with
      cart := { Cart.blank with prg := cells [(0x7FFF, 0xA0)], prgBanks := 2 } }
    cpuIrq (at_ 0xE3 0) = { at_ 0xE3 0 with
      cpu := regs 0 0 0 0xFA 0xE7 0xA000 7, ram := cells [(0x01FB, 0xE3), (0x01FC, 0x23), (0x01FD, 0xC1)] } ∧
    cpuIrq (at_ 0x24 3) = at_ 0x24 3 := by decide

/-! ### Bus, ports, PPU and Mapper -/

/-- T-B1, T-B2, T-B3 (R83, R84). -/
theorem test_B1_B2_B3 :
    (busRead (busWrite State.reset 0x0000#16 0x55#8) 0x1800#16).1 = 0x55#8 ∧
    (busRead (busWrite State.reset 0x1FFF#16 0x66#8) 0x07FF#16).1 = 0x66#8 ∧
    (busWrite State.reset 0x3FF9#16 0x1E#8).ppu.mask = 0x1E#8 := by decide

/-- T-B8 (R400, R401): the first four reads of controller 0. -/
theorem test_B8 :
    let s := busWrite { State.reset with ctlIn0 := 0x90#8 } 0x4016#16 0x00#8
    let r := fun (u : State) => (busRead u 0x4016#16).2
    [(busRead s 0x4016#16).1, (busRead (r s) 0x4016#16).1, (busRead (r (r s)) 0x4016#16).1,
      (busRead (r (r (r s))) 0x4016#16).1] = [1#8, 0#8, 0#8, 1#8] := by decide

/-- T-B9 (R86). -/
theorem test_B9 : (busWrite State.reset 0x4014#16 0x02#8).dma = ⟨0x02#8, 0#8, 0#8, true, true⟩ := by decide

/-- T-P1 (R303). -/
theorem test_P1 :
    let s := State.reset.onPpu fun q =>
      { q with vblank := true, spriteZeroHit := true, rdbuf := 0x5B#8, w := true, nmiReq := true }
    (ppuPortRead s 2).1 = 0xDB#8 ∧ (ppuPortRead s 2).2.ppu.statBits = 0x40#8 ∧ (ppuPortRead s 2).2.ppu.w = false ∧
      (ppuPortRead s 2).2.ppu.nmiReq = true := by decide

/-- T-P2 (R306). -/
theorem test_P2 :
    let s := ppuPortWrite State.reset 5 0x7D#8
    let t := ppuPortWrite s 5 0x5E#8
    (s.ppu.fx, s.ppu.t, s.ppu.w) = (5#3, 0x000F#15, true) ∧ (t.ppu.t, t.ppu.w, t.ppu.v) = (0x616F#15, false, 0#15) := by
  decide

/-- T-P4 (R307). -/
theorem test_P4 :
    let s := ppuPortWrite (State.reset.onPpu fun q => { q with t := 0x7FFF#15 }) 6 0xFF#8
    let t := ppuPortWrite s 6 0xFF#8
    s.ppu.t = 0x3FFF#15 ∧ t.ppu.t = 0x3FFF#15 ∧ t.ppu.v = 0x3FFF#15 := by decide

/-- T-P8 and T-P11 (R308, R309). -/
theorem test_P8_P11 :
    let s := State.reset.onPpu fun q => { q with v := 0x3F00#15, rdbuf := 0x11#8, pal := cells [(0, 0x2A)] }
    let t := ppuPortWrite (State.reset.onPpu fun q => { q with v := 0x7FFF#15, ctrl := 0x04#8 }) 7 0x55#8
    ((ppuPortRead s 7).1, (ppuPortRead s 7).2.ppu.v) = (0x2A#8, 0x3F01#15) ∧
      (t.ppu.pal, t.ppu.v) = (cells [(0x1F, 0x55)], 0x001F#15) := by decide

/-- The tables of T-P for `NtIndex` and `PalIndex` (R323, R324): one address of each kind. -/
theorem test_ntIndex_palIndex :
    ntIndex .horizontal 0x3405#14 = 0x005 ∧ ntIndex .vertical 0x3405#14 = 0x405 ∧
    ntIndex .singleScreenLow 0x2C05#14 = 0x005 ∧ ntIndex .singleScreenHigh 0x2000#14 = 0x400 ∧
    palIndex 0x3F14#14 = 0x04 ∧ palIndex 0x3F1F#14 = 0x1F ∧ palIndex 0x3FFC#14 = 0x0C := by decide

/-- T-P20, T-P22, T-P24, T-P25 (R351 to R354). -/
theorem test_scroll_steps :
    [0x001F#15, 0x041F#15, 0x0005#15].map nextCoarseX = [0x0400#15, 0x0000#15, 0x0006#15] ∧
    [0x0000#15, 0x7000#15, 0x73A0#15, 0x7BA0#15, 0x73E0#15, 0x73C0#15].map nextY =
      [0x1000#15, 0x0020#15, 0x0800#15, 0x0000#15, 0x0000#15, 0x03E0#15] ∧
    copyX 0x7FFF#15 0#15 = 0x7BE0#15 ∧ copyY 0x7FFF#15 0#15 = 0x041F#15 := by decide

/-- T-P26 (R347): the address and the four fields of attribute byte 0xE4. -/
theorem test_P26 :
    attributeAddr 0x04C5#15 = 0x27C9#14 ∧
      [0x04C5#15, 0x0485#15, 0x04C7#15, 0x0487#15].map (fun v => attributeBits v 0xE4#8) = [2#2, 0#2, 3#2, 1#2] := by decide

/-- T-P29 (R357). -/
theorem test_P29 : [0x1D#8, 0x80#8, 0xFF#8].map reverse8 = [0xB8#8, 0x01#8, 0xFF#8] := by decide

/-- T-P31 (R355): one entry with Y = 0x43, 8 and 16 rows high. -/
theorem test_P31 :
    let q := { Ppu.reset with oam := cells [(20, 0x43)] }
    [0x42, 0x43, 0x4A, 0x4B].map (fun l => inRange q l 5) = [false, true, true, false] ∧
      [0x52, 0x53].map (fun l => inRange { q with ctrl := 0x20#8 } l 5) = [true, false] := by decide

/-- T-P32, T-P34 (R356): the address of the low pattern byte, plain and flipped. -/
theorem test_P32_P34 :
    let sp := fun (y id attr : Byte) => (⟨y, id, attr, 0#8, 0#8, 0#8⟩ : Sprite)
    let tall := { Ppu.reset with ctrl := 0x20#8 }
    spriteAddr Ppu.reset 2 (sp 0#8 0x10#8 0x00#8) = 0x0102#14 ∧ spriteAddr Ppu.reset 2 (sp 0#8 0x10#8 0x80#8) = 0x0105#14 ∧
    spriteAddr tall 9 (sp 0#8 0x11#8 0x00#8) = 0x1111#14 ∧ spriteAddr tall 9 (sp 0#8 0x11#8 0x80#8) = 0x1106#14 := by decide

/-- The map of a CPU address by a Mapper of eight PRG banks and four CHR banks, as T-M states it. -/
def prgOf (m : Mapper) (a : Addr) : CpuMap :=
  m.cpuMapRead { Cart.blank with prgBanks := 8, chrBanks := 4 } [] a

/-- The map of a PPU address by the same cartridge. -/
def chrOf (m : Mapper) (a : PpuAddr) : Option Nat := m.ppuMap { Cart.blank with prgBanks := 8, chrBanks := 4 } a

/-- T-M1 and T-M2 (R435): five writes select the register by the fifth address. -/
theorem test_M1_M2 :
    let w := fun (a : Addr) (d : Byte) (m : Mapper) => m.writeReg a d
    let four := w 0x8000#16 0#8 (w 0x8000#16 1#8 (w 0x8000#16 0#8 (w 0x8000#16 1#8 (.shift ShiftRegs.reset))))
    w 0xE000#16 0#8 four = .shift { ShiftRegs.reset with prg := 5#4 } ∧
      w 0xA000#16 0#8 four = .shift { ShiftRegs.reset with chrLo := 5#5 } ∧
      prgOf (w 0xE000#16 0#8 four) 0x8000#16 = .mapped 0x14000 ∧
      prgOf (w 0xE000#16 0#8 four) 0xFFFC#16 = .mapped 0x1FFFC := by decide

/-- T-M7 and T-M16 (R440, R458). -/
theorem test_M7_M16 :
    let m := (Mapper.prgSelect 0#4).writeReg 0x8000#16 0x05#8
    let n := (Mapper.combined 0#2 0#2).writeReg 0x8000#16 0x31#8
    [prgOf m 0x8000#16, prgOf m 0xBFFF#16, prgOf m 0xC000#16] = [.mapped 0x14000, .mapped 0x17FFF, .mapped 0x1C000] ∧
      prgOf n 0x8000#16 = .mapped 0x18000 ∧ chrOf n 0x0000#14 = some 0x2000 := by decide

/-- T-M10 (R450). -/
theorem test_M10 :
    let m := ((Mapper.scanline (ScanlineRegs.reset .vertical)).writeReg 0x8000#16 0x06#8).writeReg 0x8001#16 0x03#8
    let n := m.writeReg 0x8000#16 0x46#8
    [prgOf m 0x8000#16, prgOf m 0xA000#16, prgOf m 0xC000#16] = [.mapped 0x06000, .mapped 0x02000, .mapped 0x1C000] ∧
      [prgOf n 0x8000#16, prgOf n 0xC000#16] = [.mapped 0x1C000, .mapped 0x06000] := by decide

/-- T-M12 (R450): the latch at 3 raises the request in the fourth call. -/
theorem test_M12 :
    let m := (((Mapper.scanline (ScanlineRegs.reset .vertical)).writeReg 0xC000#16 0x03#8).writeReg 0xC001#16 0x00#8).writeReg
      0xE001#16 0x00#8
    let three := m.onScanline.onScanline.onScanline
    three.irqPending = false ∧ three.onScanline.irqPending = true ∧
      three.onScanline.irqAcknowledge.irqPending = false := by decide

/-- T-M14 (R455): the latches choose the CHR banks; a read of 0x0FD8 changes latch 0 for the next read. -/
theorem test_M14 :
    let m := (((Mapper.latch (LatchRegs.reset .vertical)).writeReg 0xA000#16 0x02#8).writeReg 0xB000#16 0x01#8).writeReg
      0xC000#16 0x02#8
    let n := m.afterPpuRead { Cart.blank with prgBanks := 8, chrBanks := 4 } 0x0FD8#14
    prgOf m 0x8000#16 = .mapped 0x04000 ∧ prgOf m 0xA000#16 = .mapped 0x1A000 ∧
      chrOf m 0x0FD8#14 = some 0x2FD8 ∧ chrOf n 0x0000#14 = some 0x1000 := by decide

/-- The load-time mapper ids (R424, R411). -/
theorem test_mapper_ids :
    headerMapperId 0x21#8 0x40#8 = 66 ∧ Mapper.ofId .vertical 66 = some (.combined 0#2 0#2) ∧
      Mapper.ofId .vertical 5 = none ∧ headerMirroring 0x21#8 = .vertical := by decide

/-! ### The host's entry points: a word placed from reset is the next step's instruction -/

/-- LDA immediate, from the table's row bits and an operand byte: two cycles, one of them spent. -/
theorem test_withFetchWord_lda :
    nextHas (step (State.reset.withFetchWord 16 0x80A9)) (fun t =>
      decide (t.cpu.a = 0x80#8 ∧ t.cpu.p = 0xA4#8 ∧ t.cpu.cyc = 1 ∧ t.tick = 1)) = true := by decide

/-- JMP absolute, the longest form. -/
theorem test_withFetchWord_jmp :
    nextHas (step (State.reset.withFetchWord 24 0x12344C)) (fun t => decide (t.cpu.pc = 0x1234#16 ∧ t.cpu.cyc = 2)) = true := by
  decide

/-- KIL, from its one opcode byte. -/
theorem test_withFetchWord_kil :
    nextHas (step (State.reset.withFetchWord 8 0x02)) (fun t => decide (t.cpu.halted = true ∧ t.cpu.cyc = 0)) = true := by decide

/-! ### Witnesses: what meets the hypotheses of each statement that has some -/

/-- A machine in the middle of a run, on the scanline variant: line 5, dot 17, both layers shown, an instruction
`ADC $02FF,X` at 0x0200, `S` at the bottom of page 1. -/
def busy : State :=
  { State.reset with
    cpu := regs 0x50 0x01 0x02 0x00 0x25 0x0200 0
    ppu := { Ppu.reset with ctrl := 0x90#8, mask := 0x1E#8, scanline := 5, dot := 17, v := 0x2042#15, t := 0x0800#15,
                            oam := cells [(0, 0x05), (1, 0x11), (3, 0x10)], secCount := 1, s0Possible := true,
                            fb := [(1300, 0x21#6)] }
    ram := cells [(0x0010, 0x80), (0x0100, 0x12), (0x0200, 0x7D), (0x0201, 0xFF), (0x0202, 0x02), (0x0300, 0x70)]
    tick := 9
    mapper := .scanline { ScanlineRegs.reset .vertical with irqLatch := 2#8, irqEnable := true }
    mapperRam := cells [(0x1FFF, 0x77)]
    cart := { Cart.blank with prg := cells [(0, 0xEA), (0x7FFF, 0xC0)], prgBanks := 2 } }

/-- The invariant of every statement that assumes one. -/
theorem witness_inv : busy.Inv where
  cpu := ⟨by decide, by decide, by decide⟩
  ppu :=
    { line := by decide, dot := by decide, slots := by decide, count := by decide, nt := ⟨rfl, rfl⟩, pal := ⟨rfl, rfl⟩
      chrRam := ⟨rfl, rfl⟩, oam := ⟨by decide, by decide⟩, fb := ⟨by decide, by decide⟩ }
  dma := fun _ => rfl
  mapper := trivial
  ram := ⟨by decide, by decide⟩
  mapperRam := ⟨by decide, by decide⟩
  cart := ⟨by decide, ⟨by decide, by decide⟩, ⟨rfl, rfl⟩⟩

theorem witness_EncodeInvertsDecode : decode [0x7D#8, 0xFF#8, 0x02#8, 0xEA#8] = .ok (.adcAbx 0x02FF#16, [0xEA#8]) := rfl

/-- Both verdicts of EveryOpcodeByteDecodes, at the lengths where they meet. -/
theorem witness_EveryOpcodeByteDecodes :
    (tableRow 0x7D#8).2.1 = .ABX ∧ 3 ≤ [0xFF#8, 0x02#8].length + 1 ∧ [0xFF#8].length + 1 < 3 ∧
      (tableRow 0x02#8).2.1 = .IMP ∧ 1 ≤ ([] : List Byte).length + 1 := by decide

/-- Both clauses of StepRunsDecodedInstruction. -/
theorem witness_StepRunsDecodedInstruction :
    let u := ppuClock busy
    busy.tick % 3 = 0 ∧ busy.dma.active = false ∧ busy.cpu.halted = false ∧ busy.cpu.cyc = 0 ∧
      decode [busPeek u u.cpu.pc, busPeek u (u.cpu.pc + 1#16), busPeek u (u.cpu.pc + 2#16)] = .ok (.adcAbx 0x02FF#16, []) ∧
      ∀ k < (Instr.adcAbx 0x02FF#16).length, isDevice (u.cpu.pc + BitVec.ofNat 16 k) = false := by
  refine ⟨by decide, by decide, by decide, by decide, rfl, by decide⟩

/-- An instruction for each clause of the statements by mnemonic. -/
theorem witness_mnemonics :
    ([.ldaAbx 0x02FF#16, .ldxImm 0#8, .ldyZp0 0x10#8, .laxIzy 0x10#8, .staIzy 0x10#8, .stxZpy 0xFF#8, .styAbs 0x6000#16,
      .saxIzx 0xFF#8, .adcAbx 0x02FF#16, .sbcImmEB 1#8, .andImm 0x80#8, .oraZp0 0x10#8, .eorIzx 0x0F#8, .cmpAby 0xFFFF#16,
      .cpxImm 1#8, .cpyAbs 0x2002#16, .bitAbs 0x2007#16] : List Instr).map Instr.mnem =
      [.LDA, .LDX, .LDY, .LAX, .STA, .STX, .STY, .SAX, .ADC, .SBC, .AND, .ORA, .EOR, .CMP, .CPX, .CPY, .BIT] ∧
    ([.incAbx 0x02FF#16, .decZp0 0x10#8, .aslImp, .lsrAbs 0x0300#16, .rolImp, .rorZpx 0xFF#8, .sloIzx 0x10#8, .rlaAby 0x02FF#16,
      .sreZp0 0x10#8, .rraAbs 0x2007#16, .dcpIzy 0x10#8, .iscAbx 0x8000#16, .lasAby 0x02FF#16, .ancImm2B 0x80#8, .alrImm 1#8,
      .arrImm 0xFF#8, .axsImm 2#8, .xaaImm 0xFF#8, .lxaImm 0xFF#8, .ahxIzy 0x10#8, .shyAbx 0x02FF#16, .shxAby 0x0200#16,
      .tasAby 0x0200#16] : List Instr).map Instr.mnem =
      [.INC, .DEC, .ASL, .LSR, .ROL, .ROR, .SLO, .RLA, .SRE, .RRA, .DCP, .ISC, .LAS, .ANC, .ALR, .ARR, .AXS, .XAA, .LXA, .AHX,
        .SHY, .SHX, .TAS] ∧
    ([.clcImp, .secImp, .cliImp, .seiImp, .clvImp, .cldImp, .sedImp, .nopAbx1C 0x02FF#16, .kilImpF2] : List Instr).map Instr.mnem =
      [.CLC, .SEC, .CLI, .SEI, .CLV, .CLD, .SED, .NOP, .KIL] := ⟨rfl, rfl, rfl⟩

/-- The two forms of a shift, in the state of `witness_inv`. -/
theorem witness_ShiftsAndRotates : Instr.aslImp.mode = .IMP ∧ (Instr.rorZpx 0xFF#8).mode ≠ .IMP := by decide

/-- A crossing and a plain unstable store. -/
theorem witness_UnstableStores :
    (operandAt (.shyAbx 0x02FF#16) busy).1.crossed = true ∧ (operandAt (.tasAby 0x0200#16) busy).1.crossed = false := by decide

theorem witness_Branches : (Instr.bneRel 0x80#8).operand = .rel 0x80#8 ∧ branchCondition .BNE busy.cpu.p = true := by decide

/-- A halted CPU, and an action that is not reset. -/
theorem witness_HaltStopsTheCpu :
    let s := { busy with cpu := { busy.cpu with halted := true } }
    s.cpu.halted = true ∧ HostAction.clearFrameComplete ≠ .reset ∧ ∃ t, hostAct s .clearFrameComplete = .next t :=
  ⟨rfl, by decide, _, rfl⟩

theorem witness_EffectiveAddresses : (Operand.izy 0xFF#8).mode ≠ .IND := by decide

theorem witness_PageCrossing : (Operand.izx 0xFF#8).mode ∉ [Mode.ABX, Mode.ABY, Mode.IZY] := by decide

/-- Both clauses of TotalCycles, the branch taken. -/
theorem witness_TotalCycles :
    (Instr.adcAbx 0x02FF#16).mode ≠ .REL ∧ (Instr.bneRel 0x10#8).mode = .REL ∧ branchCondition .BNE busy.cpu.p = true := by
  decide

/-- The last address of console RAM, and its first image. -/
theorem witness_ConsoleRamImages : (0x1FFF#16).toNat ≤ 0x1FFF ∧ (0x07FF#16).toNat % 0x800 = (0x1FFF#16).toNat % 0x800 := by decide

/-- Ports 2, 4, 7 and another, at both ends of their range. -/
theorem witness_PeekAgreesWithRead :
    (0x2002#16).toNat % 8 = 2 ∧ (0x2004#16).toNat % 8 = 4 ∧ 0x2000 ≤ (0x3FFF#16).toNat ∧ (0x3FFF#16).toNat ≤ 0x3FFF ∧
      (0x3FFF#16).toNat % 8 = 7 ∧ (0x2000#16).toNat % 8 ∉ [2, 4, 7] := by decide

/-- No device; the ends of the ports; an unmapped address; the cartridge's RAM declined. -/
theorem witness_AddressMapOutsideMemory :
    isDevice 0x4017#16 = true ∧ isDevice 0x4018#16 = false ∧ 0x2000 ≤ (0x2000#16).toNat ∧ (0x3FFF#16).toNat ≤ 0x3FFF ∧
      (0x7FFF#16).toNat < 0x8000 ∧ 0x6000 ≤ (0x7FFF#16).toNat ∧ State.reset.mapper.hasRam = false ∧
      0x4000 ≤ (0x4014#16).toNat ∧ (0x4000#16) ≠ 0x4014#16 := by decide

/-- The four ranges at their ends, with and without RAM, and a claimed read. -/
theorem witness_CartridgeCpuContract :
    1 ≤ busy.cart.prgBanks ∧ (0x5FFF#16).toNat < 0x6000 ∧ 0x8000 ≤ (0x8000#16).toNat ∧ 0x6000 ≤ (0x6000#16).toNat ∧
      (0x7FFF#16).toNat < 0x8000 ∧ busy.mapper.hasRam = true ∧ State.reset.mapper.hasRam = false ∧
      cartCpuRead busy 0x7FFF#16 = some 0x77#8 := by decide

theorem witness_RegisterPorts : (9 : Nat) ≠ 10 ∧ (9 : Nat) ≠ 11 ∧ (6 : Nat) ∈ [0, 1, 3, 5, 6] := by decide

/-- Both values of the toggle. -/
theorem witness_ScrollAndAddressPorts : busy.ppu.w = false ∧ (ppuPortWrite busy 5 0#8).ppu.w = true := by decide

/-- The ends of the nametables and of their image. -/
theorem witness_NametableMirroring :
    0x2000 ≤ (0x2000#14).toNat ∧ 0x3000 ≤ (0x3000#14).toNat ∧ (0x3EFF#14).toNat ≤ 0x3EFF := by decide

theorem witness_PaletteAliases : 0x3F00 ≤ (0x3F00#14).toNat ∧ 0x3F00 ≤ (0x3FFF#14).toNat ∧ palIndex 0x3F10#14 = palIndex 0x3F00#14 := by
  decide

/-- A machine with CHR ROM beside the one without. -/
def busyChr : State := { busy with cart := { busy.cart with chr := cells [(0x1FFF, 0x3C)], chrBanks := 1 } }

/-- Both clauses of PatternMemory, at the last address of pattern memory; `witness_inv` gives the first its invariant. -/
theorem witness_PatternMemory :
    busyChr.Inv ∧ (0x1FFF#14).toNat ≤ 0x1FFF ∧ busy.cart.chrBanks = 0 ∧ busyChr.cart.chrBanks ≠ 0 :=
  ⟨{ witness_inv with cart := ⟨by decide, witness_inv.cart.prg, ⟨by decide, by decide⟩⟩ }, by decide, by decide, by decide⟩

/-- A place on the grid: its last position. -/
theorem witness_FrameOfTicks :
    let s := busy.onPpu fun q => { q with scanline := 260, dot := 340 }
    (-1 : Int) ≤ s.ppu.scanline ∧ s.ppu.scanline ≤ 260 ∧ s.ppu.dot ≤ 340 := by decide

theorem witness_VerticalBlankEvents :
    let s := busy.onPpu fun q => { q with scanline := -1, dot := 1 }
    s.ppu.scanline = -1 ∧ s.ppu.dot = 1 := by decide

/-- An idle position of each kind, and the one that is not idle. -/
theorem witness_IdlePositions :
    let q := busy.onPpu fun q => { q with scanline := 5, dot := 0 }
    let s := busy.onPpu fun q => { q with scanline := 241, dot := 2 }
    let v := busy.onPpu fun q => { q with scanline := 241, dot := 1 }
    (q.ppu.dot = 0 ∧ ¬(q.ppu.scanline = 241 ∧ q.ppu.dot = 1)) ∧ 240 ≤ s.ppu.scanline ∧
      ¬(s.ppu.scanline = 241 ∧ s.ppu.dot = 1) ∧ v.ppu.scanline = 241 ∧ v.ppu.dot = 1 := by decide

/-- The pipelines' machine on the latch-driven variant: tile 0xFE in the latch, row 0, and a sprite of tile 0xFD whose row 0
lies on the line. -/
def fetching (dot : Nat) : State :=
  { busyChr.onPpu fun q => { q with
      dot := dot, nxId := 0xFE#8, nxAttr := 2#2, v := 0x0C63#15, shPatLo := 0x8001#16, ctrl := 0#8,
      nt := cells [(0x463, 0x11), (0x7C0, 0xC0)],
      sprites := ⟨5#8, 0xFD#8, 0x40#8, 1#8, 0x81#8, 0#8⟩ :: List.replicate 7 Sprite.empty } with
    mapper := .latch { LatchRegs.reset .vertical with latch0 := .fd } }

/-- Each position of DotFrame: the first and last dots of the windows, by phase, the two dots after them, the evaluation, the
hook and the clearing; the three kinds of Mapper; a sprite's last row in each height; the choice among the slots. -/
theorem witness_DotFrame :
    [2, 9, 257, 321, 329, 337].map (fun d => (fetching d).ppu.inWindow) = List.replicate 6 true ∧
      [1, 258, 320, 338, 340].map (fun d => (fetching d).ppu.inWindow) = List.replicate 5 false ∧
      [9, 11, 13, 15, 338].map (fun d => (fetching d).ppu.dotReads) =
        [[0x2C63#14], [0x2FC0#14], [0x0FE0#14], [0x0FE8#14], [0x2C63#14]] ∧
      (fetching 340).ppu.dotReads = [0x2C63#14, 0x0FD0#14, 0x0FD8#14] ∧
      (busy.mapper = .scanline { ScanlineRegs.reset .vertical with irqLatch := 2#8, irqEnable := true }) ∧
      ((fetching 15).mapper = .latch { LatchRegs.reset .vertical with latch0 := .fd }) ∧
      ((∀ r, State.reset.mapper ≠ .scanline r) ∧ ∀ r, State.reset.mapper ≠ .latch r) ∧
      (let tall := { busy.ppu with scanline := 15, ctrl := 0x20#8 }
       let low := { busy.ppu with scanline := 7 }
       let y : Byte := 0#8
       tall.ctrl.getLsbD 5 = true ∧ (y.toNat : Int) ≤ tall.scanline ∧ (tall.scanline - (y.toNat : Int)).toNat = 15 ∧
         low.ctrl.getLsbD 5 = false ∧ (low.scanline - (y.toNat : Int)).toNat = 7) ∧
      (let q := (fetching 9).ppu
       (q.mask.getLsbD 4 && (q.mask.getLsbD 2 || decide (9 ≤ 9))) = true ∧ 0 < q.secCount ∧
         q.sprites[0]? = some ⟨5#8, 0xFD#8, 0x40#8, 1#8, 0x81#8, 0#8⟩) ∧
      (let q := { busy.ppu with mask := 0#8 }
       (q.mask.getLsbD 4 && (q.mask.getLsbD 2 || decide (9 ≤ 8))) = false) := by
  refine ⟨by decide, by decide, by decide, by decide, rfl, rfl,
    ⟨fun _ h => Mapper.noConfusion h, fun _ h => Mapper.noConfusion h⟩, ?_, ?_, ?_⟩ <;> decide

/-- R346 to R350 by hand: dot 9 shifts, loads the old latches and fetches the tile at (nametable 3, row 3, column 3); dot 11
takes the attribute's top bits, the quadrant of an odd row and column pair. -/
theorem test_backgroundDots :
    (ppuClock (fetching 9)).ppu.nxId = 0x11#8 ∧ (ppuClock (fetching 9)).ppu.shPatLo = 0x0000#16 ∧
      (ppuClock (fetching 9)).ppu.shAttHi = 0x00FF#16 ∧ (ppuClock (fetching 11)).ppu.nxAttr = 3#2 ∧
      (ppuClock (fetching 10)).ppu.shPatLo = 0x0002#16 := by decide

/-- R350 and R455 by hand: a slot at X 1 counts down in the first window and stands still in the second; the pattern read of
tile 0xFE, row 0, sets latch 0 to FE, and so does the sprite fetch of tile 0xFD the other way. -/
theorem test_spriteAndLatchDots :
    ((ppuClock (fetching 9)).ppu.sprites.head?.map Sprite.x) = some 0#8 ∧
      ((ppuClock (fetching 329)).ppu.sprites.head?.map Sprite.x) = some 1#8 ∧
      (ppuClock (fetching 15)).mapper = .latch (LatchRegs.reset .vertical) ∧
      (ppuClock { fetching 340 with mapper := .latch (LatchRegs.reset .vertical) }).mapper = (fetching 340).mapper := by decide

theorem witness_SpriteEvaluation : (-1 : Int) < 0 := by decide

/-- A visible dot with rendering on and off, and one that is not visible; the multiplexer's four cases. -/
theorem witness_FramebufferPixel :
    let off := busy.onPpu fun q => { q with mask := 0#8, scanline := 239, dot := 256 }
    let dark := busy.onPpu fun q => { q with scanline := 240, dot := 256 }
    let clear := (⟨0#2, 0#3⟩ : Pixel)
    let set := (⟨3#2, 1#3⟩ : Pixel)
    (0 ≤ busy.ppu.scanline ∧ busy.ppu.scanline ≤ 239 ∧ 1 ≤ busy.ppu.dot ∧ busy.ppu.dot ≤ 256) ∧
      (0 ≤ off.ppu.scanline ∧ off.ppu.scanline ≤ 239 ∧ off.ppu.mask.getLsbD 3 = false ∧ off.ppu.mask.getLsbD 4 = false) ∧
      ¬(0 ≤ dark.ppu.scanline ∧ dark.ppu.scanline ≤ 239) ∧ clear.px = 0#2 ∧ set.px ≠ 0#2 := by decide

/-- Sprite 0's slot and an opaque background under dot 9: the hit happens. -/
theorem witness_SpriteZeroHitWhen :
    let s := busy.onPpu fun q => { q with dot := 9, shPatLo := 0xFFFF#16,
                                          sprites := ⟨5#8, 0x11#8, 0#8, 0#8, 0xFF#8, 0#8⟩ :: List.replicate 7 Sprite.empty }
    s.ppu.spriteZeroHit = false ∧ (ppuClock s).ppu.spriteZeroHit = true ∧ (ppuClock (ppuClock s)).ppu.spriteZeroHit = true ∧
      ¬((ppuClock s).ppu.scanline = -1 ∧ (ppuClock s).ppu.dot = 1) := by decide

theorem witness_SerialRegisterLoad :
    ShiftRegs.reset.count = 0 ∧ (0x7F#8).getLsbD 7 = false ∧ (0x80#8).getLsbD 7 = true := by decide

/-- The latch at 255, its largest value: below, at and beyond the call that raises the request. -/
theorem witness_ScanlineCounter :
    let r := { ScanlineRegs.reset .vertical with irqLatch := 255#8, irqEnable := true }
    r.irqCounter = 0#8 ∧ r.irqActive = false ∧ 255 ≤ r.irqLatch.toNat ∧ 256 = r.irqLatch.toNat + 1 ∧
      (ScanlineRegs.reset .vertical).irqEnable = false := by decide

/-- Each clause of BankSwitching, at the ends of its range and with one bank: the four PRG modes of id 1, the windows of ids 4
and 9, every port of id 4 at its last address, every register of id 9, the two halves of pattern memory, a claimed and a
declined PPU read. -/
theorem witness_BankSwitching :
    (1 ≤ Cart.blank.prgBanks ∧ Cart.blank.prgBanks ≤ 2 ∧ 0x8000 ≤ (0x8000#16).toNat ∧ (0xBFFF#16).toNat < 0xC000 ∧
      0xC000 ≤ (0xC000#16).toNat ∧ 0xE000 ≤ (0xE000#16).toNat ∧ (ShiftRegs.reset.control.toNat / 4) % 4 = 3 ∧
      busyChr.cart.chrBanks ≠ 0 ∧ (0x1FFF#14).toNat < 0x2000) ∧
    ([0x03#5, 0x07#5, 0x0B#5, 0x1F#5].map (fun c => c.toNat / 4 % 4) = [0, 1, 2, 3]) ∧
    ((0x9FFF#16).toNat < 0xA000 ∧ 0xA000 ≤ (0xA000#16).toNat ∧ (0xDFFF#16).toNat < 0xE000) ∧
    ([0x9FFE#16, 0x9FFF#16, 0xBFFE#16, 0xBFFF#16, 0xDFFE#16, 0xDFFF#16, 0xFFFE#16, 0xFFFF#16].map
        (fun a : Addr => a &&& 0xE001#16) =
      [0x8000#16, 0x8001#16, 0xA000#16, 0xA001#16, 0xC000#16, 0xC001#16, 0xE000#16, 0xE001#16]) ∧
    ([0x8FFF#16, 0x9FFF#16, 0xAFFF#16, 0xBFFF#16, 0xCFFF#16, 0xDFFF#16, 0xEFFF#16, 0xFFFF#16].map
        (fun a : Addr => a.toNat / 0x1000) =
      [8, 9, 0xA, 0xB, 0xC, 0xD, 0xE, 0xF]) ∧
    (busyChr.mapper.cpuMapRead busyChr.cart [] 0x8000#16 = .mapped 0 ∧
      busyChr.mapper.ppuMap busyChr.cart 0x1FFF#14 = some 0x03FF) ∧
    ((fetching 15).mapper = .latch { LatchRegs.reset .vertical with latch0 := .fd } ∧ (fetching 15).cart.chrBanks ≠ 0 ∧
      0x2000 ≤ (0x2000#14).toNat ∧ busy.cart.chrBanks = 0) := by decide

/-- An interrupt taken, one dropped with I set, one dropped by a halted CPU; `witness_inv` and this give the invariant. -/
theorem witness_InterruptEntries :
    let s := { busy with cpu := { busy.cpu with p := 0x20#8 } }
    let h := { busy with cpu := { busy.cpu with halted := true } }
    s.Inv ∧ h.Inv ∧ s.cpu.halted = false ∧ getFlag s.cpu.p .I = false ∧ getFlag busy.cpu.p .I = true ∧ h.cpu.halted = true :=
  ⟨{ witness_inv with cpu := ⟨by decide, by decide, by decide⟩ }, { witness_inv with cpu := ⟨by decide, by decide, by decide⟩ },
    by decide, by decide, by decide, by decide⟩

/-- The four combinations of the two requests. -/
theorem witness_InterruptPolls :
    let nmi := busy.onPpu fun q => { q with nmiReq := true }
    let active := Mapper.scanline { ScanlineRegs.reset .vertical with irqActive := true }
    (busy.ppu.nmiReq, busy.mapper.irqPending) = (false, false) ∧ (nmi.ppu.nmiReq, nmi.mapper.irqPending) = (true, false) ∧
      ({ busy with mapper := active }.ppu.nmiReq, { busy with mapper := active }.mapper.irqPending) = (false, true) ∧
      ({ nmi with mapper := active }.ppu.nmiReq, { nmi with mapper := active }.mapper.irqPending) = (true, true) := by decide

theorem witness_ReturnsRestoreTheCpu : busy.cpu.halted = false ∧ getFlag { busy.cpu with p := 0x20#8 }.p .I = false := by decide

/-- The four slots, with no interrupt pending after the dot. -/
theorem witness_CpuSlots :
    let dma := { busy with dma := { busy.dma with active := true } }
    let halt := { busy with cpu := { busy.cpu with halted := true } }
    let owed := { busy with cpu := { busy.cpu with cyc := 3 } }
    ([busy, dma, halt, owed].all fun s => !(ppuClock s).ppu.nmiReq && !(ppuClock s).mapper.irqPending) = true ∧
      { busy with tick := 10 }.tick % 3 ≠ 0 ∧ (dma.tick % 3 = 0 ∧ dma.dma.active = true) ∧
      (halt.tick % 3 = 0 ∧ halt.dma.active = false ∧ halt.cpu.halted = true) ∧
      (owed.tick % 3 = 0 ∧ owed.dma.active = false ∧ owed.cpu.halted = false ∧ 0 < owed.cpu.cyc) := by decide

/-- The engine as 0x4014 arms it, on page 2 (console RAM) and on page 0x1F, the last before the ports. -/
theorem witness_DmaCopiesAPage :
    let s := busWrite busy 0x4014#16 0x02#8
    s.Inv ∧ s.dma.active = true ∧ s.dma.dummy = true ∧ s.dma.off = 0#8 ∧ s.tick % 2 = 1 ∧
      ∀ o : Byte, isDevice (cat 0x1F#8 o) = false :=
  ⟨{ witness_inv with dma := fun _ => rfl }, by decide, by decide, by decide, by decide, by decide⟩

/-- A step from the state of `witness_inv`. -/
theorem witness_StepKeepsInvariant : ∃ t, step busy = .next t := ⟨_, rfl⟩

theorem witness_HostActions : ∃ t, hostAct busy (.setControllers 1#8 2#8) = .next t ∧ HostAction.clock ≠ .setControllers 1#8 2#8 :=
  ⟨_, rfl, by decide⟩

end Sys2Proof.Tests
end

section
/-! PROOF. No outcome of an instruction, of a step or of a host action is a fault or a refusal (R13, R117, R477): the
property goes from `exec` outwards, through the CPU's clock and its slot, to `busClock`. -/

namespace Sys2Proof.Machine

open Sys2Proof

/-- Work after an outcome that is a next state leaves a next state. -/
theorem exists_thenNext {r : Result} (h : ∃ t, r = .next t) (f : State → State) : ∃ t, thenNext r f = .next t := by
  obtain ⟨u, rfl⟩ := h
  exact ⟨f u, thenNext_next u f⟩

theorem exists_exec (i : Instr) (s : State) : ∃ t, exec i s = .next t := ⟨_, exec_eq i s⟩

/-- Halted, at a productive cycle, or counting down a cycle owed (R131). -/
theorem exists_cpuClock (s : State) : ∃ t, cpuClock s = .next t := by
  unfold cpuClock
  split_ifs
  · exact ⟨s, rfl⟩
  · exact exists_thenNext (exists_exec (fetchInstr s).1 (fetchInstr s).2) afterProductive
  · exact ⟨_, rfl⟩

/-- The DMA engine's slot, the CPU's, or none (R380, R382). -/
theorem exists_cpuSlot (s : State) : ∃ t, cpuSlot s = .next t := by
  unfold cpuSlot
  split_ifs
  · exact ⟨dmaStep s, rfl⟩
  · exact exists_cpuClock s
  · exact ⟨s, rfl⟩

theorem exists_busClock (s : State) : ∃ t, busClock s = .next t := exists_thenNext (exists_cpuSlot (ppuClock s)) endTick

theorem exists_step (s : State) : ∃ t, step s = .next t := exists_busClock s

theorem exists_hostAct (s : State) (a : HostAction) : ∃ t, hostAct s a = .next t := by
  cases a with
  | clock => exact exists_busClock s
  | reset => exact ⟨busReset s, rfl⟩
  | setControllers c0 c1 => exact ⟨_, rfl⟩
  | clearFrameComplete => exact ⟨_, rfl⟩

/-- Settles O6: `exec` never stops (`exec_eq`), and what a step and a host action put around it never does either. -/
theorem nothingStops : Obligations.NothingStops := ⟨exists_exec, exists_step, exists_hostAct⟩

end Sys2Proof.Machine
end

section
/-! PROOF. What the CPU can do to the machine, said once for instructions, fetches and interrupts: change its registers and use
the Bus. What each of those keeps, all of them keep. -/

namespace Sys2Proof.Machine

open Sys2Proof

/-- `t` comes from `s` by changes of CPU registers that keep U set and B clear, Bus reads and Bus writes. -/
inductive CpuActs (s : State) : State → Prop
  | refl : CpuActs s s
  | regs {t u : State} (h : CpuActs s t) (hu : SameOutsideCpu t u) (hp : StatusOk t.cpu.p → StatusOk u.cpu.p) : CpuActs s u
  | read {t : State} (h : CpuActs s t) (a : Addr) : CpuActs s (busRead t a).2
  | write {t : State} (h : CpuActs s t) (a : Addr) (v : Byte) : CpuActs s (busWrite t a v)

namespace CpuActs

variable {s t : State}

/-! ### Registers -/

theorem setA (h : CpuActs s t) (v : Byte) : CpuActs s (t.setA v) := h.regs rfl id

theorem setX (h : CpuActs s t) (v : Byte) : CpuActs s (t.setX v) := h.regs rfl id

theorem setY (h : CpuActs s t) (v : Byte) : CpuActs s (t.setY v) := h.regs rfl id

theorem setSp (h : CpuActs s t) (v : Byte) : CpuActs s (t.setSp v) := h.regs rfl id

theorem setPc (h : CpuActs s t) (v : Addr) : CpuActs s (t.setPc v) := h.regs rfl id

theorem setCyc (h : CpuActs s t) (n : Nat) : CpuActs s (t.setCyc n) := h.regs rfl id

theorem addCyc (h : CpuActs s t) (n : Nat) : CpuActs s (t.addCyc n) := h.regs rfl id

theorem setHalted (h : CpuActs s t) (b : Bool) : CpuActs s (t.setHalted b) := h.regs rfl id

/-- A status byte computed from `P` by a flag computation of its own (`FlagsKept`). -/
theorem setFlags (h : CpuActs s t) {fs : List Flag} {p : Byte} (k : FlagsKept fs t.cpu.p p)
    (hf : Flag.U ∉ fs ∧ Flag.B ∉ fs := by decide) : CpuActs s (t.setP p) :=
  h.regs rfl fun hp => hp.of_kept k hf.1 hf.2

theorem setZN (h : CpuActs s t) (v : Byte) : CpuActs s (t.setZN v) := h.setFlags (flagsKept_zn _ v)

theorem putFlag (h : CpuActs s t) (f : Flag) (b : Bool) (hf : Flag.U ∉ [f] ∧ Flag.B ∉ [f] := by decide) :
    CpuActs s (t.putFlag f b) := h.setFlags (flagsKept_setFlag _ f b) hf

/-- The status byte PLP and RTI pull (R25, R26). -/
theorem pullStatus (h : CpuActs s t) (v : Byte) : CpuActs s (t.setP (pulledStatus v)) :=
  h.regs rfl fun _ => statusOk_pulledStatus v

/-! ### The stack, words, exceptions -/

theorem push8 (h : CpuActs s t) (v : Byte) : CpuActs s (Machine.push8 t v) := (h.write _ v).setSp _

theorem pop8 (h : CpuActs s t) : CpuActs s (Machine.pop8 t).2 := (h.setSp _).read _

theorem push16 (h : CpuActs s t) (w : Addr) : CpuActs s (Machine.push16 t w) := (h.push8 _).push8 _

theorem pop16 (h : CpuActs s t) : CpuActs s (Machine.pop16 t).2 := h.pop8.pop8

theorem takeException (h : CpuActs s t) (ret : Addr) (status : Byte) (v : Addr) :
    CpuActs s (Machine.takeException t ret status v) :=
  (((((h.push16 ret).push8 status).putFlag .I true).read v).read _).setPc _

theorem interruptEntry (h : CpuActs s t) (v : Addr) : CpuActs s (Machine.interruptEntry t v) :=
  (h.takeException _ _ v).addCyc 7

theorem returnFromException (h : CpuActs s t) : CpuActs s (Machine.returnFromException t) :=
  (h.pop8.pullStatus _).pop16.setPc _

/-! ### Operands and the operations that instructions share -/

theorem resolve (h : CpuActs s t) (o : Operand) : CpuActs s (Machine.resolve t o).2 := by
  cases o
  case izx | izy | ind => exact (h.read _).read _
  all_goals exact h

theorem readOperand (h : CpuActs s t) (r : Resolved) : CpuActs s (Machine.readOperand t r).2 := by
  unfold Machine.readOperand
  split
  · exact h
  · exact h
  · exact h.read _

theorem writeOperand (h : CpuActs s t) (r : Resolved) (v : Byte) : CpuActs s (Machine.writeOperand t r v) := by
  unfold Machine.writeOperand
  split
  · exact h.setA v
  · exact h
  · exact h.write _ v

theorem loadA (h : CpuActs s t) (v : Byte) : CpuActs s (Machine.loadA t v) := (h.setA v).setZN v

theorem addWithCarry (h : CpuActs s t) (m : Byte) : CpuActs s (Machine.addWithCarry t m) :=
  (h.setA _).setFlags (flagsKept_add _ _ _)

theorem compareWith (h : CpuActs s t) (r m : Byte) : CpuActs s (Machine.compareWith t r m) :=
  h.setFlags (flagsKept_compare _ _ _)

theorem shiftOp (h : CpuActs s t) (f : Byte → Bool → Shifted) (r : Resolved) : CpuActs s (Machine.shiftOp f t r) :=
  ((h.readOperand r).setFlags (flagsKept_shift _ _)).writeOperand r _

theorem shiftMemory (h : CpuActs s t) (f : Byte → Bool → Shifted) (r : Resolved) :
    CpuActs s (Machine.shiftMemory f t r).2 := ((h.readOperand r).writeOperand r _).putFlag .C _

theorem unstableStore (h : CpuActs s t) (v : Byte) (r : Resolved) : CpuActs s (Machine.unstableStore t v r) := h.write _ _

theorem branch (h : CpuActs s t) (c : Bool) (r : Resolved) : CpuActs s (Machine.branch t c r) := by
  unfold Machine.branch
  split
  · exact (h.addCyc _).setPc _
  · exact h

/-! ### Instructions -/

/-- The frame of an instruction adds the resolution and the cycles to what its operation does. -/
theorem runInstr {n : Nat} {extra : Bool} {o : Operand} {body : State → Resolved → State}
    (hb : ∀ u r, CpuActs s u → CpuActs s (body u r)) : CpuActs s (Machine.runInstr n extra o body s) :=
  (hb _ _ ((refl.setCyc n).resolve o)).addCyc _

/-- Every operation is of registers and the Bus. -/
theorem operate (m : Mnemonic) (o : Operand) (n : Nat) (s : State) : CpuActs s (Machine.operate m o n s) := by
  cases m <;> dsimp only [Machine.operate]
  case LDA => exact runInstr fun u r h => ((h.readOperand r).setA _).setZN _
  case LDX => exact runInstr fun u r h => ((h.readOperand r).setX _).setZN _
  case LDY => exact runInstr fun u r h => ((h.readOperand r).setY _).setZN _
  case LAX | LXA => exact runInstr fun u r h => (((h.readOperand r).setA _).setX _).setZN _
  case LAS => exact runInstr fun u r h => ((((h.readOperand r).setA _).setX _).setSp _).setZN _
  case STA | STX | STY | SAX => exact runInstr fun u r h => h.writeOperand r _
  case AHX | SHX | SHY => exact runInstr fun u r h => h.unstableStore _ r
  case TAS => exact runInstr fun u r h => (h.setSp _).unstableStore _ r
  case TXA | TYA => exact runInstr fun u r h => (h.setA _).setZN _
  case TAX | TSX | INX | DEX => exact runInstr fun u r h => (h.setX _).setZN _
  case TAY | INY | DEY => exact runInstr fun u r h => (h.setY _).setZN _
  case TXS => exact runInstr fun u r h => h.setSp _
  case ADC | SBC => exact runInstr fun u r h => (h.readOperand r).addWithCarry _
  case AND | ORA | EOR | XAA => exact runInstr fun u r h => (h.readOperand r).loadA _
  case CMP | CPX | CPY => exact runInstr fun u r h => (h.readOperand r).compareWith _ _
  case BIT => exact runInstr fun u r h => (h.readOperand r).setFlags (flagsKept_bit _ _ _)
  case INC | DEC => exact runInstr fun u r h => ((h.readOperand r).writeOperand r _).setZN _
  case ASL | LSR | ROL | ROR => exact runInstr fun u r h => h.shiftOp _ r
  case SLO | RLA | SRE => exact runInstr fun u r h => (h.shiftMemory _ r).loadA _
  case RRA => exact runInstr fun u r h => (h.shiftMemory _ r).addWithCarry _
  case DCP => exact runInstr fun u r h => ((h.readOperand r).writeOperand r _).compareWith _ _
  case ISC => exact runInstr fun u r h => ((h.readOperand r).writeOperand r _).addWithCarry _
  case ANC => exact runInstr fun u r h => ((h.readOperand r).setA _).setFlags (flagsKept_anc _ _)
  case ALR => exact runInstr fun u r h => ((h.readOperand r).setA _).setFlags (flagsKept_shift _ _)
  case ARR => exact runInstr fun u r h => ((h.readOperand r).setA _).setFlags (flagsKept_arr _ _)
  case AXS => exact runInstr fun u r h => ((h.readOperand r).setX _).setFlags (flagsKept_axs _ _ _)
  case BPL | BMI | BVC | BVS | BCC | BCS | BNE | BEQ => exact runInstr fun u r h => h.branch _ r
  case JMP => exact runInstr fun u r h => h.setPc _
  case JSR => exact runInstr fun u r h => (h.push16 _).setPc _
  case RTS => exact runInstr fun u r h => h.pop16.setPc _
  case BRK => exact runInstr fun u r h => h.takeException _ _ _
  case RTI => exact runInstr fun u r h => h.returnFromException
  case PHA | PHP => exact runInstr fun u r h => h.push8 _
  case PLA => exact runInstr fun u r h => (h.pop8.setA _).setZN _
  case PLP => exact runInstr fun u r h => h.pop8.pullStatus _
  case CLC | SEC => exact runInstr fun u r h => h.putFlag .C _
  case CLI | SEI => exact runInstr fun u r h => h.putFlag .I _
  case CLD | SED => exact runInstr fun u r h => h.putFlag .D _
  case CLV => exact runInstr fun u r h => h.putFlag .V _
  case NOP => exact runInstr fun u r h => h.readOperand r
  case KIL => exact runInstr fun u r h => h.setHalted true

theorem trans {u : State} (h : CpuActs s t) (h' : CpuActs t u) : CpuActs s u := by
  induction h' with
  | refl => exact h
  | regs _ hu hp ih => exact ih.regs hu hp
  | read _ a ih => exact ih.read a
  | write _ a v ih => exact ih.write a v

theorem fetchByte (h : CpuActs s t) : CpuActs s (Machine.fetchByte t).2 := (h.read _).setPc _

theorem fetchInstr (h : CpuActs s t) : CpuActs s (Machine.fetchInstr t).2 := by
  unfold Machine.fetchInstr
  simp only
  split
  · exact h.fetchByte
  · exact h.fetchByte.fetchByte
  · exact h.fetchByte.fetchByte.fetchByte

/-- The productive cycle: fetch and operate (R130). -/
theorem executeInstruction (h : Machine.executeInstruction s = .next t) : CpuActs s t := by
  rw [Machine.executeInstruction, exec_eq] at h
  cases h
  exact refl.fetchInstr.trans (operate _ _ _ _)

end CpuActs

end Sys2Proof.Machine
end

section
/-! PROOF. A dot of the PPU as a whole: what its stages leave alone (`DotLeft`), and that each keeps the PPU's invariant. -/

namespace Sys2Proof.Machine

/-- What a stage of a dot does: it changes what `DotLeft` says and keeps the PPU's invariant. -/
structure DotStage (s t : State) : Prop extends DotLeft s t where
  ppuOk : s.ppu.Ok → t.ppu.Ok

namespace DotStage

theorem refl (s : State) : DotStage s s := ⟨DotLeft.refl s, id⟩

theorem trans {s t u : State} (h : DotStage s t) (h' : DotStage t u) : DotStage s u :=
  ⟨h.toDotLeft.trans h'.toDotLeft, fun k => h'.ppuOk (h.ppuOk k)⟩

theorem onPpu (s : State) {f : Ppu → Ppu} (hk : PpuKept s.ppu (f s.ppu)) (ho : s.ppu.Ok → (f s.ppu).Ok) :
    DotStage s (s.onPpu f) := ⟨onPpu_left s hk, ho⟩

/-- A stage that runs only under a condition, which it may use. -/
theorem onlyIf {c : Bool} {f : State → State} {s : State} (h : c = true → DotStage s (f s)) :
    DotStage s (Machine.onlyIf c f s) := by
  cases c with
  | false => exact refl s
  | true => exact h rfl

theorem inv {s t : State} (h : DotStage s t) (hs : s.Inv) : t.Inv := by
  rw [h.only]
  exact { hs with ppu := h.ppuOk hs.ppu, mapper := h.mapperOk hs.mapper }

end DotStage

/-! ### Changes of the PPU alone -/

namespace Ppu.Ok

variable {q : Ppu}

theorem updateShifters (h : q.Ok) (d : Nat) : (Machine.updateShifters q d).Ok := by
  have hb : (shiftBackground q).Ok := by
    unfold shiftBackground
    split
    · exact { h with }
    · exact h
  unfold Machine.updateShifters
  simp only
  split
  · exact { hb with slots := by simp [tickSprites_eq, hb.slots] }
  · exact hb

theorem clearFlags (h : q.Ok) : (Machine.clearFlags q).Ok := { h with slots := by simp [Machine.clearFlags, h.slots] }

theorem loadBgShifters (h : q.Ok) : (Machine.loadBgShifters q).Ok := { h with }

/-- The scroll steps replace `v` where rendering is on (R351 to R354). -/
theorem replaceV (h : q.Ok) (c : Bool) (v : Loopy) : (if c then { q with v := v } else q).Ok := by
  split
  · exact { h with }
  · exact h

theorem incrementCoarseX (h : q.Ok) : (Machine.incrementCoarseX q).Ok := h.replaceV _ _

theorem incrementY (h : q.Ok) : (Machine.incrementY q).Ok := h.replaceV _ _

theorem transferX (h : q.Ok) : (Machine.transferX q).Ok := h.replaceV _ _

theorem transferY (h : q.Ok) : (Machine.transferY q).Ok := h.replaceV _ _

theorem setVblank (h : q.Ok) : (Machine.setVblank q).Ok := { h with }

/-- Only a slot below eight is filled (R355). -/
theorem evaluateEntry (h : q.Ok) (l : Int) (n : Nat) : (Machine.evaluateEntry l q n).Ok := by
  unfold Machine.evaluateEntry
  split_ifs with hr hc
  · exact { h with slots := by simp [h.slots], count := Nat.succ_le_of_lt hc }
  · exact { h with }
  · exact h

theorem spriteEvaluate (h : q.Ok) (l : Int) : (Machine.spriteEvaluate l q).Ok :=
  List.foldlRecOn _ _ ({ h with slots := rfl, count := Nat.zero_le _ } : (clearSecondary q).Ok)
    fun _ hq n _ => hq.evaluateEntry l n

/-- A visible dot writes inside the framebuffer (R371). -/
theorem composite (h : q.Ok) {l d : Nat} (hl : l ≤ 239) (hd : d ≤ 256) : (Machine.composite q l d).Ok :=
  { h with fb := Mem.ok_write h.fb (by unfold fbIndex; omega) _ }

/-- The beam stays on the grid (R331). -/
theorem advance (h : q.Ok) : (Machine.advance q).Ok := by
  obtain ⟨lo, hi⟩ := h.line
  have hd := h.dot
  unfold Machine.advance
  split_ifs with hdot hline
  · exact { h with line := by simp, dot := by simp }
  · exact { h with line := by constructor <;> simp only <;> omega, dot := by simp }
  · exact { h with dot := by simp only; omega }

end Ppu.Ok

/-! ### Stages that read PPU memory -/

theorem fetchNametableByte_stage (s : State) : DotStage s (fetchNametableByte s) :=
  ⟨fetchNametableByte_left s, fun h => { h with }⟩

theorem fetchAttribute_stage (s : State) : DotStage s (fetchAttribute s) := ⟨fetchAttribute_left s, fun h => { h with }⟩

theorem fetchPatternLow_stage (s : State) : DotStage s (fetchPatternLow s) := ⟨fetchPatternLow_left s, fun h => { h with }⟩

theorem fetchPatternHigh_stage (s : State) : DotStage s (fetchPatternHigh s) :=
  ⟨fetchPatternHigh_left s, fun h => { h with }⟩

theorem fetchPhase_stage (d : Nat) (s : State) : DotStage s (fetchPhase d s) := by
  unfold fetchPhase
  split
  · exact (DotStage.onPpu s (loadBgShifters_kept _) (·.loadBgShifters)).trans (fetchNametableByte_stage _)
  · exact fetchAttribute_stage s
  · exact fetchPatternLow_stage s
  · exact fetchPatternHigh_stage s
  · exact DotStage.onPpu s (incrementCoarseX_kept _) (·.incrementCoarseX)
  · exact DotStage.refl s

theorem fetchDot_stage (d : Nat) (s : State) : DotStage s (fetchDot d s) :=
  (DotStage.onPpu s (updateShifters_kept _ d) (·.updateShifters d)).trans (fetchPhase_stage d _)

theorem fetchSprite_stage (l : Int) (s : State) (i : Nat) : DotStage s (fetchSprite l s i) :=
  ⟨fetchSprite_left l s i, fun h => { h with slots := (List.length_set ..).trans h.slots }⟩

theorem spriteFetch_stage (l : Int) (s : State) : DotStage s (spriteFetch l s) :=
  List.foldlRecOn _ _ (DotStage.refl s) fun u h i _ => h.trans (fetchSprite_stage l u i)

theorem scanlineHook_stage (s : State) : DotStage s (scanlineHook s) := ⟨scanlineHook_left s, id⟩

/-! ### The dot -/

theorem renderDot_stage (l : Int) (d : Nat) (ren : Bool) (s : State) : DotStage s (renderDot l d ren s) := by
  unfold renderDot
  refine (DotStage.onlyIf fun _ => ?clear).trans <| (DotStage.onlyIf fun _ => ?fetch).trans <|
    (DotStage.onlyIf fun _ => ?incrementY).trans <| (DotStage.onlyIf fun _ => ?transferX).trans <|
    (DotStage.onlyIf fun _ => ?nametable).trans <| (DotStage.onlyIf fun _ => ?transferY).trans <|
    (DotStage.onlyIf fun _ => ?evaluate).trans <| (DotStage.onlyIf fun _ => ?sprites).trans <|
    DotStage.onlyIf fun _ => ?hook
  case clear => exact .onPpu _ (clearFlags_kept _) (·.clearFlags)
  case fetch => exact fetchDot_stage d _
  case incrementY => exact .onPpu _ (incrementY_kept _) (·.incrementY)
  case transferX => exact .onPpu _ ((loadBgShifters_kept _).trans (transferX_kept _)) (·.loadBgShifters.transferX)
  case nametable => exact fetchNametableByte_stage _
  case transferY => exact .onPpu _ (transferY_kept _) (·.transferY)
  case evaluate => exact .onPpu _ (spriteEvaluate_kept l _) (·.spriteEvaluate l)
  case sprites => exact spriteFetch_stage l _
  case hook => exact scanlineHook_stage _

/-- Everything `PPU.clock()` can change, and that it keeps the invariant (R330). -/
theorem ppuClock_stage (s : State) : DotStage s (ppuClock s) := by
  unfold ppuClock
  refine (DotStage.onlyIf fun _ => ?render).trans <| (DotStage.onlyIf fun _ => ?vblank).trans <|
    (DotStage.onlyIf fun hc => ?composite).trans <| DotStage.onPpu _ (advance_kept _) (·.advance)
  case render => exact renderDot_stage _ _ _ s
  case vblank => exact .onPpu _ (setVblank_kept _) (·.setVblank)
  case composite =>
    obtain ⟨_, hl, _, hd⟩ := of_decide_eq_true hc
    exact .onPpu _ (composite_kept _ _ _) (·.composite (by omega) hd)

end Sys2Proof.Machine
end

section
/-! PROOF. The parts of a tick one after the other (R380), and the reset: each keeps the invariant and what the host owns.
O58, O60 and O56 are read off the whole. -/

namespace Sys2Proof.Machine

open Sys2Proof

/-- The cartridge and the input bytes, which only a launch and the host set (R67, R402), are the same. -/
structure HostOwned (s t : State) : Prop where
  cart : t.cart = s.cart
  ctlIn0 : t.ctlIn0 = s.ctlIn0
  ctlIn1 : t.ctlIn1 = s.ctlIn1

theorem HostOwned.trans {s t u : State} (h : HostOwned s t) (h' : HostOwned t u) : HostOwned s u :=
  ⟨h'.cart.trans h.cart, h'.ctlIn0.trans h.ctlIn0, h'.ctlIn1.trans h.ctlIn1⟩

theorem SameOutsideCpu.hostOwned {s t : State} (h : SameOutsideCpu s t) : HostOwned s t := by rw [h]; exact ⟨rfl, rfl, rfl⟩

theorem CpuActs.hostOwned {s t : State} (h : CpuActs s t) : HostOwned s t := by
  induction h with
  | refl => exact ⟨rfl, rfl, rfl⟩
  | regs _ hu _ ih => exact ih.trans hu.hostOwned
  | read _ a ih => exact ih.trans (let l := busRead_left _ a; ⟨l.cart, l.ctlIn0, l.ctlIn1⟩)
  | write _ a v ih => exact ih.trans (let l := busWrite_left _ a v; ⟨l.cart, l.ctlIn0, l.ctlIn1⟩)

/-! ### The invariant in the middle of a CPU cycle -/

/-- The invariant without its clause on a halted CPU's count: a halt opcode leaves a count that only the end of the cycle
clears (R131, R280). -/
structure State.InvMidway (s : State) : Prop where
  status : StatusOk s.cpu.p
  rest : State.Inv { s with cpu := Cpu.reset }

theorem cpuReset_ok (pc : Addr) : ({ Cpu.reset with pc := pc } : Cpu).Ok :=
  ⟨(by decide : getFlag 0x24#8 .U = true), (by decide : getFlag 0x24#8 .B = false), nofun⟩

theorem State.Inv.midway {s : State} (h : s.Inv) : s.InvMidway :=
  ⟨h.cpu.status, h.setCpu (cpuReset_ok 0#16)⟩

theorem State.InvMidway.setCyc {s : State} (h : s.InvMidway) {n : Nat} (hn : s.cpu.halted = true → n = 0) :
    (s.setCyc n).Inv :=
  have ⟨hu, hb⟩ := h.status
  h.rest.setCpu ⟨hu, hb, hn⟩

theorem State.InvMidway.inv {s : State} (h : s.InvMidway) (hr : s.cpu.halted = false) : s.Inv :=
  h.setCyc (n := s.cpu.cyc) (by simp [hr])

theorem CpuActs.midway {s t : State} (h : CpuActs s t) (hs : s.InvMidway) : t.InvMidway := by
  induction h with
  | refl => exact hs
  | @regs t u _ hu hp ih =>
    have e : { u with cpu := Cpu.reset } = { t with cpu := Cpu.reset } := by rw [hu]
    exact ⟨hp ih.status, e ▸ ih.rest⟩
  | @read t _ a ih =>
    have hr := busRead_inv ih.rest a
    rw [busRead_setCpu] at hr
    exact ⟨by rw [busRead_cpu]; exact ih.status, hr⟩
  | @write t _ a v ih =>
    have hw := busWrite_inv ih.rest a v
    rw [busWrite_setCpu] at hw
    exact ⟨by rw [busWrite_cpu]; exact ih.status, hw⟩

/-! ### What every part of a tick keeps -/

/-- `t` meets the invariant if `s` does, and the host's things are untouched. -/
structure Keeps (s t : State) : Prop extends HostOwned s t where
  inv : s.Inv → t.Inv

theorem Keeps.refl (s : State) : Keeps s s := ⟨⟨rfl, rfl, rfl⟩, id⟩

theorem Keeps.trans {s t u : State} (h : Keeps s t) (h' : Keeps t u) : Keeps s u :=
  ⟨h.toHostOwned.trans h'.toHostOwned, fun i => h'.inv (h.inv i)⟩

theorem exists_of_thenNext {r : Result} {f : State → State} {t : State} (h : thenNext r f = .next t) :
    ∃ u, r = .next u ∧ f u = t := by
  cases r with
  | next u => exact ⟨u, rfl, by simpa using h⟩
  | fault x => exact nomatch x
  | refused x => simp [thenNext] at h

theorem ppuClock_keeps (s : State) : Keeps s (ppuClock s) :=
  ⟨by rw [(ppuClock_stage s).only]; exact ⟨rfl, rfl, rfl⟩, (ppuClock_stage s).inv⟩

/-- The end of a productive cycle restores the clause on the count (R131). -/
theorem afterProductive_inv {s : State} (h : s.InvMidway) : (afterProductive s).Inv := by
  unfold afterProductive
  split
  · exact h.setCyc fun _ => rfl
  · exact h.setCyc fun hh => absurd hh ‹_›

theorem sameOutsideCpu_afterProductive (s : State) : SameOutsideCpu s (afterProductive s) := by
  unfold afterProductive
  split <;> rfl

theorem cpuClock_keeps {s t : State} (h : cpuClock s = .next t) : Keeps s t := by
  unfold cpuClock at h
  split_ifs at h with hh
  · cases h
    exact Keeps.refl s
  · obtain ⟨u, hu, rfl⟩ := exists_of_thenNext h
    have acts := CpuActs.executeInstruction hu
    exact ⟨acts.hostOwned.trans (sameOutsideCpu_afterProductive u).hostOwned,
      fun i => afterProductive_inv (acts.midway i.midway)⟩
  · cases h
    exact ⟨⟨rfl, rfl, rfl⟩, fun i => i.midway.setCyc fun h' => absurd h' hh⟩

/-- A slot of a running transfer; at rest the engine has no slot (R390). -/
theorem dmaStep_keeps {s : State} (ha : s.dma.active = true) : Keeps s (dmaStep s) := by
  unfold dmaStep
  split_ifs
  · exact ⟨⟨rfl, rfl, rfl⟩, fun i => { i with dma := fun e => absurd (ha.symm.trans e) (by decide) }⟩
  · exact Keeps.refl s
  · have l := busRead_left s s.dma.source
    refine ⟨⟨l.cart, l.ctlIn0, l.ctlIn1⟩, fun i => ?_⟩
    have ir := busRead_inv i s.dma.source
    exact { ir with dma := ir.dma }
  · refine ⟨⟨rfl, rfl, rfl⟩, fun i => { i with ppu := { i.ppu with oam := ?_ }, dma := fun e => ?_ }⟩
    · exact Mem.ok_write i.ppu.oam s.dma.off.isLt _
    · simpa [dmaWriteSlot] using e

theorem cpuSlot_keeps {s t : State} (h : cpuSlot s = .next t) : Keeps s t := by
  unfold cpuSlot at h
  split_ifs at h with _ ha
  · cases h
    exact dmaStep_keeps ha
  · exact cpuClock_keeps h
  · cases h
    exact Keeps.refl s

/-! ### The interrupt polls (R385, R386) -/

theorem interruptEntry_halted (s : State) (v : Addr) : (interruptEntry s v).cpu.halted = s.cpu.halted := by
  simp [interruptEntry, takeException, read16, push16, push8]

theorem interruptEntry_keeps {s : State} (hr : s.cpu.halted = false) (v : Addr) : Keeps s (interruptEntry s v) :=
  have acts := CpuActs.refl.interruptEntry v
  ⟨acts.hostOwned, fun i => (acts.midway i.midway).inv ((interruptEntry_halted s v).trans hr)⟩

theorem cpuNmi_keeps (s : State) : Keeps s (cpuNmi s) := by
  unfold cpuNmi
  split_ifs with hh
  · exact Keeps.refl s
  · exact interruptEntry_keeps (Bool.eq_false_of_not_eq_true hh) _

theorem cpuIrq_keeps (s : State) : Keeps s (cpuIrq s) := by
  unfold cpuIrq
  split_ifs with hh
  · exact Keeps.refl s
  · exact Keeps.refl s
  · exact interruptEntry_keeps (Bool.eq_false_of_not_eq_true hh) _

theorem irqAcknowledge_ok {m : Mapper} (h : m.Ok) : m.irqAcknowledge.Ok := by cases m <;> exact h

theorem pollNmi_keeps (s : State) : Keeps s (pollNmi s) := by
  unfold pollNmi
  split
  · refine Keeps.trans ?_ (cpuNmi_keeps _)
    exact ⟨⟨rfl, rfl, rfl⟩, fun i => { i with ppu := { i.ppu with } }⟩
  · exact Keeps.refl s

theorem pollIrq_keeps (s : State) : Keeps s (pollIrq s) := by
  unfold pollIrq
  split
  · refine Keeps.trans ?_ (cpuIrq_keeps _)
    exact ⟨⟨rfl, rfl, rfl⟩, fun i => { i with mapper := irqAcknowledge_ok i.mapper }⟩
  · exact Keeps.refl s

theorem endTick_keeps (s : State) : Keeps s (endTick s) :=
  ((pollNmi_keeps s).trans (pollIrq_keeps _)).trans ⟨⟨rfl, rfl, rfl⟩, fun i => { i with }⟩

/-- A whole tick (R380). -/
theorem busClock_keeps {s t : State} (h : busClock s = .next t) : Keeps s t := by
  obtain ⟨u, hu, rfl⟩ := exists_of_thenNext h
  exact ((ppuClock_keeps s).trans (cpuSlot_keeps hu)).trans (endTick_keeps u)

/-- Settles O58: the parts of a tick keep the invariant in turn (`busClock_keeps`). -/
theorem stepKeepsInvariant : Obligations.StepKeepsInvariant := fun _ _ hs h => (busClock_keeps h).inv hs

/-! ### Reset (R510 to R516) -/

/-- The vector is read from the cartridge, which no read changes: `Bus.reset()` is the devices at reset and a fresh CPU. -/
theorem busReset_eq (s : State) : busReset s = { resetDevices s with
    cpu := { Cpu.reset with pc := wordAt (resetDevices s) resetVector } } := by
  rw [busReset, cpuReset, read16_high _ (by decide) (by decide)]
  rfl

theorem mapperReset_ok (m : Mapper) (hdr : HdrMirroring) : (m.reset hdr).Ok := by
  cases m
  case shift => exact Nat.zero_le 4
  all_goals trivial

theorem ppuReset_ok {q : Ppu} (h : q.Ok) : (ppuReset q).Ok :=
  { h with line := (by decide : (-1 : Int) ≤ 0 ∧ (0 : Int) ≤ 260), dot := Nat.zero_le _, slots := rfl, count := Nat.zero_le _ }

theorem busReset_keeps (s : State) : Keeps s (busReset s) := by
  rw [busReset_eq]
  exact ⟨⟨rfl, rfl, rfl⟩, fun i =>
    { i with cpu := cpuReset_ok _, ppu := ppuReset_ok i.ppu, dma := fun _ => rfl
             mapper := mapperReset_ok _ _ }⟩

/-- Settles O56: `busReset_eq` field by field; the launch with the blank cartridge is such a reset. -/
theorem resetValues : Obligations.ResetValues :=
  ⟨fun s => by rw [busReset_eq]; exact ⟨rfl, rfl, rfl⟩, by rw [powerOn, busReset_eq]; decide⟩

/-! ### The host's actions (R410) -/

/-- Only the host's own input changes its input bytes. -/
theorem hostAct_keeps {s t : State} {act : HostAction} (h : hostAct s act = .next t)
    (hc : ∀ c0 c1, act ≠ .setControllers c0 c1) : Keeps s t := by
  cases act with
  | clock => exact busClock_keeps h
  | reset => cases h; exact busReset_keeps s
  | setControllers c0 c1 => exact absurd rfl (hc c0 c1)
  | clearFrameComplete => cases h; exact ⟨⟨rfl, rfl, rfl⟩, fun i => { i with ppu := { i.ppu with } }⟩

/-- Settles O60: setting the inputs touches nothing else, and the other actions are `hostAct_keeps`. -/
theorem hostActionsKeepInvariantAndRom : Obligations.HostActionsKeepInvariantAndRom := by
  intro s t act h
  by_cases hc : ∃ c0 c1, act = .setControllers c0 c1
  · obtain ⟨c0, c1, rfl⟩ := hc
    cases h
    exact ⟨fun i => { i with }, rfl, fun hn => absurd rfl (hn c0 c1)⟩
  · have k := hostAct_keeps h (fun c0 c1 e => hc ⟨c0, c1, e⟩)
    exact ⟨k.inv, k.cart, fun _ => ⟨k.ctlIn0, k.ctlIn1⟩⟩

end Sys2Proof.Machine
end

section
/-! PROOF. The stack instructions (R230 to R233): a push and a pull through the whole frame of an instruction. -/

namespace Sys2Proof.Machine

open Sys2Proof

/-- An instruction that pushes one byte: the byte at the old `S`, `S` one lower modulo 256 (R12, R23). -/
theorem pushes_one {i : Instr} {s : State} {n : Nat} {v : Byte} (hr : s.ram.wf = true)
    (h : exec i s = .next ((push8 (s.setCyc n) v).addCyc 0)) :
    ∃ t, exec i s = .next t ∧ Pushed s t [(stackCell s.cpu.sp, v)] ∧
      t.cpu = { s.cpu with sp := s.cpu.sp - 1#8, cyc := n } := by
  refine ⟨_, h, ?_, ?_⟩
  · exact (Pushed.fromCpu (pushed_push8 (s := s.setCyc n) hr v) (sameOutsideCpu_setCyc s n)).thenCpu rfl
  · rw [push8_eq]; rfl

/-- An instruction that pulls one byte and then changes CPU registers: the byte above the old `S`, `S` one higher modulo
256 (R12, R23). -/
theorem pulls_one {i : Instr} {s : State} {n : Nat} {upd : State → Byte → State} {regs : Cpu → Prop}
    (h : exec i s = .next ((upd (pop8 (s.setCyc n)).2 (pop8 (s.setCyc n)).1).addCyc 0))
    (hu : ∀ u m, SameOutsideCpu u (upd u m))
    (hr : regs ((upd { s with cpu := { s.cpu with sp := s.cpu.sp + 1#8, cyc := n } }
      (s.ram.read (stackCell (s.cpu.sp + 1#8)))).addCyc 0).cpu) : CompletesOnRegisters i s regs := by
  rw [pop8_eq] at h
  have hp : SameOutsideCpu s { s with cpu := { s.cpu with sp := s.cpu.sp + 1#8, cyc := n } } := rfl
  exact completesOnRegisters_of h (hp.trans (hu _ _)) hr

/-- Settles O19: PHA and PHP are one push, PLA and PLP one pull. -/
theorem stackInstructions : Obligations.StackInstructions := fun _ hs =>
  ⟨pushes_one hs.ram.1 rfl, pushes_one hs.ram.1 rfl,
    pulls_one (upd := loadA) rfl (fun _ _ => rfl) ⟨rfl, znOf_zn _ _, flagsKept_zn _ _⟩,
    pulls_one (upd := fun u m => u.setP (pulledStatus m)) rfl (fun _ _ => rfl) rfl⟩

end Sys2Proof.Machine
end

section
/-! PROOF. The halt (R30, R280, R475): a halt opcode sets `cpu.halted`, and then no tick changes the CPU. -/

namespace Sys2Proof.Machine

open Sys2Proof

/-- The twelve halt opcodes are in mode IMP and have the table's count 2 (R280). -/
theorem Instr.operand_baseCycles_of_kil {i : Instr} (h : i.mnem = .KIL) : i.operand = .imp ∧ i.baseCycles = 2 := by
  cases i <;> cases h <;> exact ⟨rfl, rfl⟩

theorem kil_completes {i : Instr} (h : i.mnem = .KIL) (s : State) :
    CompletesOnRegisters i s fun c => c = { s.cpu with halted := true, cyc := 2 } := by
  obtain ⟨ho, hb⟩ := Instr.operand_baseCycles_of_kil h
  have e := exec_of_mnem h s
  rw [ho, hb] at e
  exact completesOnRegisters_of e rfl rfl

section
variable {s : State} (h : s.cpu.halted = true)
include h

theorem cpuClock_of_halted : cpuClock s = .next s := by rw [cpuClock, if_pos h]

theorem cpuNmi_of_halted : cpuNmi s = s := by rw [cpuNmi, if_pos h]

theorem cpuIrq_of_halted : cpuIrq s = s := by rw [cpuIrq, if_pos h]

end

theorem ppuClock_cpu (s : State) : (ppuClock s).cpu = s.cpu := by rw [(ppuClock_stage s).only]

/-- The DMA engine writes no register of the CPU. -/
theorem dmaStep_cpu (s : State) : (dmaStep s).cpu = s.cpu := by
  unfold dmaStep
  split_ifs
  · rfl
  · rfl
  · exact busRead_cpu s _
  · rfl

theorem cpuSlot_cpu_of_halted {s t : State} (h : s.cpu.halted = true) (ht : cpuSlot s = .next t) : t.cpu = s.cpu := by
  rw [cpuSlot, cpuClock_of_halted h] at ht
  split_ifs at ht <;> cases ht
  · exact dmaStep_cpu s
  · rfl
  · rfl

theorem pollNmi_cpu_of_halted {s : State} (h : s.cpu.halted = true) : (pollNmi s).cpu = s.cpu := by
  unfold pollNmi
  split
  · rw [cpuNmi_of_halted]
    exacts [rfl, h]
  · rfl

theorem pollIrq_cpu_of_halted {s : State} (h : s.cpu.halted = true) : (pollIrq s).cpu = s.cpu := by
  unfold pollIrq
  split
  · rw [cpuIrq_of_halted]
    exact h
  · rfl

theorem endTick_cpu_of_halted {s : State} (h : s.cpu.halted = true) : (endTick s).cpu = s.cpu := by
  have hn := pollNmi_cpu_of_halted h
  exact (pollIrq_cpu_of_halted (s := pollNmi s) (hn ▸ h)).trans hn

theorem busClock_cpu_of_halted {s t : State} (h : s.cpu.halted = true) (ht : busClock s = .next t) : t.cpu = s.cpu := by
  obtain ⟨u, hu, rfl⟩ := exists_of_thenNext ht
  have hp := ppuClock_cpu s
  have hc : u.cpu = s.cpu := (cpuSlot_cpu_of_halted (hp ▸ h) hu).trans hp
  exact (endTick_cpu_of_halted (hc ▸ h)).trans hc

/-- Nothing the host does but reset reaches a halted CPU (R410). -/
theorem hostAct_cpu_of_halted {s t : State} {a : HostAction} (h : s.cpu.halted = true) (ha : a ≠ .reset)
    (ht : hostAct s a = .next t) : t.cpu = s.cpu := by
  cases a with
  | clock => exact busClock_cpu_of_halted h ht
  | reset => exact absurd rfl ha
  | setControllers c0 c1 => cases ht; rfl
  | clearFrameComplete => cases ht; rfl

/-- Settles O24: a halt opcode halts (`kil_completes`), and a halted CPU stays until the reset (`busReset_eq`). -/
theorem haltStopsTheCpu : Obligations.HaltStopsTheCpu :=
  ⟨fun _ s h => kil_completes h s, fun _ h => ⟨cpuClock_of_halted h, cpuNmi_of_halted h, cpuIrq_of_halted h⟩,
    fun _ _ _ h ha ht => hostAct_cpu_of_halted h ha ht, fun s => by rw [busReset_eq]; rfl, rfl⟩

end Sys2Proof.Machine
end

section
/-! PROOF. The address map (R78 to R86): what each range of the CPU space answers once the cartridge has declined. -/

namespace Sys2Proof.Machine

open Sys2Proof

/-! ### Console RAM (R83) -/

/-- A read after a write, through any two of the four images. -/
theorem busRead_busWrite_low {s : State} (hr : s.ram.wf = true) {a b : Addr} (v : Byte) (ha : a.toNat ≤ 0x1FFF)
    (hb : b.toNat ≤ 0x1FFF) :
    (busRead (busWrite s a v) b).1 = if b.toNat % 0x800 = a.toNat % 0x800 then v else (busRead s b).1 := by
  rw [busWrite_low s v ha, busRead_low _ hb, busRead_low s hb]
  exact Mem.read_write hr _ _ v

/-- A read of the stack page: a cell from 0x100 to 0x1FF. -/
theorem busRead_stackAddr (s : State) (d : Byte) : busRead s (stackAddr d) = (s.ram.read (stackCell d), s) := by
  rw [busRead_low s (stackAddr_low d), stackCell_mod]

/-- Settles O28: `busRead_low` and `busWrite_low`, and the two pages as addresses below 0x2000. -/
theorem consoleRamImages : Obligations.ConsoleRamImages :=
  ⟨fun s _ v ha => ⟨busRead_low s ha, busWrite_low s v ha, fun hs _ hb => busRead_busWrite_low hs.ram.1 v ha hb⟩,
    fun s d => ⟨busRead_zext s d, busRead_stackAddr s d⟩⟩

/-! ### The PPU ports (R84) -/

section
variable (s : State) {a : Addr} (hl : 0x2000 ≤ a.toNat) (hh : a.toNat ≤ 0x3FFF)
include hl hh

theorem busRead_ppuPort : busRead s a = ppuPortRead s (a.toNat % 8) := by
  have above : ¬ a.toNat ≤ 0x1FFF := by omega
  simp only [busRead, cartCpuRead_low s (a := a) (by omega), above, hh, if_true, if_false]

theorem busWrite_ppuPort (v : Byte) : busWrite s a v = ppuPortWrite s (a.toNat % 8) v := by
  have above : ¬ a.toNat ≤ 0x1FFF := by omega
  simp only [busWrite, cartCpuWrite_low s (a := a) v (by omega), above, hh, if_true, if_false]

end

/-! ### Unmapped addresses (R85) -/

section
variable {s : State} {a : Addr} (hl : 0x4000 ≤ a.toNat) (hh : a.toNat < 0x8000)
  (hr : 0x6000 ≤ a.toNat → s.mapper.hasRam = false) (h16 : a ≠ 0x4016#16) (h17 : a ≠ 0x4017#16)

include hh hr in
/-- Below 0x8000 the cartridge has nothing but its RAM (R421). -/
theorem cartCpuRead_noRam : cartCpuRead s a = none := by
  by_cases h6 : 0x6000 ≤ a.toNat
  · rw [cartCpuRead_ram s h6 hh, hr h6]; rfl
  · exact cartCpuRead_low s (by omega)

include hl hh hr h16 h17

theorem busRead_unmapped : busRead s a = (0#8, s) := by
  have hp : ¬ a.toNat ≤ 0x3FFF := by omega
  have hc : ¬(a.toNat = 0x4016 ∨ a.toNat = 0x4017) := not_or.mpr ⟨BitVec.toNat_ne.mp h16, BitVec.toNat_ne.mp h17⟩
  have hw : ¬ a.toNat ≤ 0x1FFF := by omega
  simp only [busRead, cartCpuRead_noRam hh hr, hw, hp, hc, if_false]

theorem busWrite_unmapped (h14 : a ≠ 0x4014#16) (v : Byte) : busWrite s a v = s := by
  rcases busWrite_cases s a v with ⟨h, _⟩ | ⟨⟨_, h⟩, _⟩ | ⟨h, _⟩ | ⟨h, _⟩ | ⟨h, _⟩ | ⟨⟨h, _⟩, ht, _⟩ | ⟨h, _⟩ |
    ⟨_, _, _, _, _, e⟩
  · omega
  · omega
  · exact absurd h h14
  · exact absurd h h16
  · exact absurd h h17
  · rw [hr h] at ht; nomatch ht
  · omega
  · exact e

end

/-! ### The DMA trigger (R86) -/

theorem busWrite_dmaTrigger (s : State) (v : Byte) : busWrite s 0x4014#16 v = dmaArm s v := rfl

/-- Settles O30: a read by what it leaves (`busRead_left`), then the map range by range. -/
theorem addressMapOutsideMemory : Obligations.AddressMapOutsideMemory :=
  ⟨fun s a => ⟨busRead_pure s, busRead_cpu s a, (busRead_left s a).sameMemory⟩,
    fun s _ v hl hh => ⟨busRead_ppuPort s hl hh, busWrite_ppuPort s hl hh v⟩,
    fun _ _ v hl hh hr h16 h17 => ⟨busRead_unmapped hl hh hr h16 h17, fun h14 => busWrite_unmapped hl hh hr h16 h17 h14 v⟩,
    busWrite_dmaTrigger⟩

end Sys2Proof.Machine
end

section
/-! PROOF. The decoder and the encoder undo each other, and the decoder is total (R110, R112 to R114): what the opcode
of each instruction selects (`Laws.OpcodeRow`) one way, what the shape of each opcode byte encodes the other way. -/

namespace Sys2Proof

open Sys2Proof.Machine

/-! ### The two bytes of a word (R9) -/

@[simp] theorem lo_cat (h l : Byte) : lo (cat h l) = l := BitVec.extractLsb'_append_eq_right

@[simp] theorem hi_cat (h l : Byte) : hi (cat h l) = h := BitVec.extractLsb'_append_eq_left

@[simp] theorem cat_hi_lo (a : Addr) : cat (hi a) (lo a) = a :=
  (BitVec.extractLsb'_append_extractLsb'_eq_extractLsb' rfl).trans BitVec.extractLsb'_eq_self

/-! ### An instruction's opcode in the table and the shapes -/

section
open Laws.OpcodeRow

/-- The row lemmas together, in the order of the constructors of `Instr`. -/
theorem opcodeRow (i : Instr) : Statement i :=
  Instr.casesOn i
    oraIzx sloIzx nopZp004 oraZp0 aslZp0 sloZp0 oraImm ancImm0B nopAbs oraAbs aslAbs sloAbs bplRel oraIzy sloIzy
    nopZpx14 oraZpx aslZpx sloZpx oraAby sloAby nopAbx1C oraAbx aslAbx sloAbx jsrAbs andIzx rlaIzx bitZp0 andZp0
    rolZp0 rlaZp0 andImm ancImm2B bitAbs andAbs rolAbs rlaAbs bmiRel andIzy rlaIzy nopZpx34 andZpx rolZpx rlaZpx
    andAby rlaAby nopAbx3C andAbx rolAbx rlaAbx eorIzx sreIzx nopZp044 eorZp0 lsrZp0 sreZp0 eorImm alrImm jmpAbs
    eorAbs lsrAbs sreAbs bvcRel eorIzy sreIzy nopZpx54 eorZpx lsrZpx sreZpx eorAby sreAby nopAbx5C eorAbx lsrAbx
    sreAbx adcIzx rraIzx nopZp064 adcZp0 rorZp0 rraZp0 adcImm arrImm jmpInd adcAbs rorAbs rraAbs bvsRel adcIzy
    rraIzy nopZpx74 adcZpx rorZpx rraZpx adcAby rraAby nopAbx7C adcAbx rorAbx rraAbx nopImm80 staIzx nopImm82 saxIzx
    styZp0 staZp0 stxZp0 saxZp0 nopImm89 xaaImm styAbs staAbs stxAbs saxAbs bccRel staIzy ahxIzy styZpx staZpx
    stxZpy saxZpy staAby tasAby shyAbx staAbx shxAby ahxAby ldyImm ldaIzx ldxImm laxIzx ldyZp0 ldaZp0 ldxZp0 laxZp0
    ldaImm lxaImm ldyAbs ldaAbs ldxAbs laxAbs bcsRel ldaIzy laxIzy ldyZpx ldaZpx ldxZpy laxZpy ldaAby lasAby ldyAbx
    ldaAbx ldxAby laxAby cpyImm cmpIzx nopImmC2 dcpIzx cpyZp0 cmpZp0 decZp0 dcpZp0 cmpImm axsImm cpyAbs cmpAbs
    decAbs dcpAbs bneRel cmpIzy dcpIzy nopZpxD4 cmpZpx decZpx dcpZpx cmpAby dcpAby nopAbxDC cmpAbx decAbx dcpAbx
    cpxImm sbcIzx nopImmE2 iscIzx cpxZp0 sbcZp0 incZp0 iscZp0 sbcImm sbcImmEB cpxAbs sbcAbs incAbs iscAbs beqRel
    sbcIzy iscIzy nopZpxF4 sbcZpx incZpx iscZpx sbcAby iscAby nopAbxFC sbcAbx incAbx iscAbx brkImp kilImp02 phpImp
    aslImp kilImp12 clcImp nopImp1A kilImp22 plpImp rolImp kilImp32 secImp nopImp3A rtiImp kilImp42 phaImp lsrImp
    kilImp52 cliImp nopImp5A rtsImp kilImp62 plaImp rorImp kilImp72 seiImp nopImp7A deyImp txaImp kilImp92 tyaImp
    txsImp tayImp taxImp kilImpB2 clvImp tsxImp inyImp dexImp kilImpD2 cldImp nopImpDA inxImp nopImp kilImpF2 sedImp
    nopImpFA

end

/-- The table's row at an instruction's opcode. -/
theorem tableRow_opcode (i : Instr) : tableRow i.opcode = (i.mnem, i.mode, i.baseCycles) := by
  obtain ⟨hmnem, hmode⟩ := Prod.ext_iff.mp (opcodeRow i).1
  exact Prod.ext hmnem (Prod.ext hmode rfl)

/-! ### The decoder, shape by shape -/

section
variable {op : Byte}

theorem decode_one {i : Instr} (h : opcodeShape op = .one i) (rest : List Byte) :
    decode (op :: rest) = .ok (i, rest) := by
  simp only [decode, h]

theorem decode_two {f : Byte → Instr} (h : opcodeShape op = .two f) (d : Byte) (rest : List Byte) :
    decode (op :: d :: rest) = .ok (f d, rest) := by
  simp only [decode, h]

theorem decode_three {f : Addr → Instr} (h : opcodeShape op = .three f) (b1 b2 : Byte) (rest : List Byte) :
    decode (op :: b1 :: b2 :: rest) = .ok (f (cat b2 b1), rest) := by
  simp only [decode, h]

end

/-- The decoder inverts the encoder: the opcode selects the shape that the operand bytes complete to the instruction. -/
theorem decode_encode (i : Instr) (rest : List Byte) : decode (encode i ++ rest) = .ok (i, rest) := by
  have hrow := (opcodeRow i).2
  split at hrow
  next hs =>
    obtain ⟨hb, rfl⟩ := hrow
    simpa [encode, hb] using decode_one hs rest
  next hs =>
    obtain ⟨d, hb, hi⟩ := hrow
    simpa [encode, hb, hi] using decode_two hs d rest
  next hs =>
    obtain ⟨a, hb, hi⟩ := hrow
    simpa [encode, hb, hi] using decode_three hs (lo a) (Machine.hi a) rest

/-- Settles O1: well-formedness is `Instr.wf_all`, the round trip `decode_encode`. -/
theorem decodeInvertsEncode : Obligations.DecodeInvertsEncode :=
  fun i rest => ⟨Instr.wf_all i, decode_encode i rest⟩

/-- Settles O4: each word is the encoding of its instruction (`decode_encode`), up to the two short lists. -/
theorem sampleWordsDecode : Obligations.SampleWordsDecode :=
  ⟨decode_encode (.ldaImm 0x10#8) [], decode_encode (.staAbx 0x1234#16) [], decode_encode (.ldaIzx 0xFE#8) [0x00#8],
    decode_encode .taxImp [], decode_encode (.adcIzy 0x80#8) [], decode_encode (.cmpImm 0x01#8) [],
    decode_encode .rorImp [], decode_encode (.jmpInd 0x02FF#16) [], decode_encode (.bneRel 0xFB#8) [],
    decode_encode .brkImp [0xEA#8], decode_encode .plpImp [], decode_encode (.sbcImmEB 0x01#8) [],
    decode_encode (.tasAby 0x0200#16) [], decode_encode (.nopImm89 0x00#8) [], decode_encode .kilImpF2 [], rfl, rfl⟩

/-! ### Every opcode byte (R113) -/

/-- The bytes of an instruction of this shape (R110, formats F1, F2, F3). -/
def Shape.length : Shape → Nat
  | .one _ => 1
  | .two _ => 2
  | .three _ => 3

/-- Every instruction of this shape encodes to `op` and its operand bytes. -/
def Shape.Encodes (op : Byte) : Shape → Prop
  | .one i => encode i = [op]
  | .two f => ∀ d, encode (f d) = [op, d]
  | .three f => ∀ a, encode (f a) = [op, lo a, hi a]

theorem opcodeShape_encodes (op : Byte) : (opcodeShape op).Encodes op := by
  obtain ⟨⟨n, hn⟩⟩ := op
  interval_cases n <;> first | exact rfl | exact fun _ => rfl

/-- The shape an opcode selects is as long as the mode of its row. -/
theorem tableRow_length (op : Byte) : (tableRow op).2.1.length = (opcodeShape op).length := by
  obtain ⟨i, hl, ho⟩ : ∃ i : Instr, i.length = (opcodeShape op).length ∧ i.opcode = op := by
    have hspec := opcodeShape_spec op
    split at hspec
    next i hs => exact ⟨i, hs ▸ hspec⟩
    next f hs => exact ⟨f 0, hs ▸ hspec 0⟩
    next f hs => exact ⟨f 0, hs ▸ hspec 0⟩
  rw [← hl, ← ho, tableRow_opcode]
  rfl

/-- On a list as long as its opcode's shape the decoder takes that many bytes, those the instruction read encodes to. -/
theorem decode_of_length_le {op : Byte} {rest : List Byte} (h : (opcodeShape op).length ≤ rest.length + 1) :
    ∃ i, decode (op :: rest) = .ok (i, (op :: rest).drop (opcodeShape op).length) ∧
      encode i ++ (op :: rest).drop (opcodeShape op).length = op :: rest := by
  have henc := opcodeShape_encodes op
  cases hs : opcodeShape op <;> rw [hs] at h henc
  case one i => exact ⟨i, decode_one hs rest, congrArg (· ++ rest) henc⟩
  case two f =>
    match rest, h with
    | d :: rest, _ => exact ⟨f d, decode_two hs d rest, congrArg (· ++ rest) (henc d)⟩
  case three f =>
    match rest, h with
    | b1 :: b2 :: rest, _ =>
      have henc := henc (cat b2 b1)
      rw [lo_cat, hi_cat] at henc
      exact ⟨f (cat b2 b1), decode_three hs b1 b2 rest, congrArg (· ++ rest) henc⟩

/-- A list shorter than its opcode's shape is refused for its missing operand. -/
theorem decode_of_lt_length {op : Byte} {rest : List Byte} (h : rest.length + 1 < (opcodeShape op).length) :
    decode (op :: rest) = .error (.noOperand op) := by
  cases hs : opcodeShape op <;> rw [hs] at h
  case one i => exact absurd h (by simp [Shape.length])
  case two f =>
    match rest, h with
    | [], _ => simp only [decode, hs]
  case three f =>
    match rest, h with
    | [], _ => simp only [decode, hs]
    | [_], _ => simp only [decode, hs]

/-- Settles O2: the instruction read encodes to the bytes taken, and the bytes left are the others. -/
theorem encodeInvertsDecode : Obligations.EncodeInvertsDecode := by
  intro bs i rest h
  cases bs with
  | nil => nomatch h
  | cons op bs =>
    rcases le_or_gt (opcodeShape op).length (bs.length + 1) with hl | hl
    · obtain ⟨j, hdec, henc⟩ := decode_of_length_le hl
      obtain ⟨rfl, rfl⟩ := Prod.mk.inj (Except.ok.inj (hdec.symm.trans h))
      exact henc
    · nomatch (decode_of_lt_length hl).symm.trans h

/-- Settles O3: the obligation's length is the shape's (`tableRow_length`), and the instruction read has the opcode
`op`, whose row is its own (`tableRow_opcode`). -/
theorem everyOpcodeByteDecodes : Obligations.EveryOpcodeByteDecodes := by
  intro op rest row len
  have hlen : len = (opcodeShape op).length := by
    rw [← tableRow_length]
    simp only [len, row]
    cases (tableRow op).2.1 <;> rfl
  rw [hlen]
  refine ⟨fun h => ?_, decode_of_lt_length⟩
  obtain ⟨i, hdec, henc⟩ := decode_of_length_le h
  have hop : i.opcode = op := (List.cons.inj henc).1
  exact ⟨i, hdec, by rw [← tableRow_opcode, hop]⟩

end Sys2Proof
end

section
/-! PROOF. Where each addressing mode finds its operand and whether its index crosses a page, in integer arithmetic (R134 to
R147). -/

namespace Sys2Proof.Machine

open Sys2Proof

/-! ### Words as integers (R9) -/

theorem hi_toNat (w : Addr) : (hi w).toNat = w.toNat / 256 := by
  rw [hi, BitVec.extractLsb'_toNat, Nat.shiftRight_eq_div_pow]
  omega

theorem lo_toNat (w : Addr) : (lo w).toNat = w.toNat % 256 := by
  rw [lo, BitVec.extractLsb'_toNat, Nat.shiftRight_zero]

theorem hi_eq_iff (v w : Addr) : hi v = hi w ↔ v.toNat / 256 = w.toNat / 256 := by
  rw [← BitVec.toNat_inj, hi_toNat, hi_toNat]

theorem zext_eq_ofNat (b : Byte) : zext b = BitVec.ofNat 16 b.toNat := (BitVec.ofNat_toNat 16 b).symm

/-- An indexed zero-page address wraps inside page 0 (R137, R138). -/
theorem zext_add (b i : Byte) : zext (b + i) = BitVec.ofNat 16 ((b.toNat + i.toNat) % 256) := by
  rw [zext_eq_ofNat, BitVec.toNat_add]

/-- An indexed address is a sum modulo 2^16 (R144, R145). -/
theorem add_zext (base : Addr) (i : Byte) : base + zext i = BitVec.ofNat 16 (base.toNat + i.toNat) := by
  rw [BitVec.ofNat_add, ← zext_eq_ofNat, BitVec.ofNat_toNat, BitVec.setWidth_eq]

/-- A relative address is a sum of `PC` and a signed displacement modulo 2^16 (R139). -/
theorem add_sext (pc : Addr) (d : Byte) : pc + sext d = BitVec.ofInt 16 (pc.toNat + d.toInt) := by
  rw [BitVec.ofInt_add, BitVec.ofInt_natCast, BitVec.ofNat_toNat, BitVec.setWidth_eq]
  rfl

/-- The second byte of JMP indirect's pointer, in the page of the first (R142). -/
theorem lo_add_one (a : Addr) : lo a + 1#8 = BitVec.ofNat 8 (a.toNat % 256 + 1) := by
  rw [BitVec.ofNat_add, ← lo_toNat, BitVec.ofNat_toNat, BitVec.setWidth_eq]

/-! ### Each mode's operand -/

section
variable (s : State) (d : Byte) (a : Addr)

theorem resolve_rel : resolve s (.rel d) = (.at (BitVec.ofInt 16 (s.cpu.pc.toNat + d.toInt)), s) := by
  rw [resolve, add_sext]

/-- A zero-page pointer's bytes, the second in page 0 as well (R140, R141). -/
theorem zeroPagePointer_wraps :
    zeroPagePointer s d = (cat (s.ram.read ((d.toNat + 1) % 256)) (s.ram.read d.toNat), s) := by
  rw [zeroPagePointer_eq, BitVec.toNat_add]
  rfl

theorem resolve_izx :
    resolve s (.izx d) = (.at (cat (s.ram.read (((d.toNat + s.cpu.x.toNat) % 256 + 1) % 256))
      (s.ram.read ((d.toNat + s.cpu.x.toNat) % 256))), s) := by
  rw [resolve, zeroPagePointer_wraps, BitVec.toNat_add]

theorem resolve_izy :
    resolve s (.izy d) =
      (.indexed (cat (s.ram.read ((d.toNat + 1) % 256)) (s.ram.read d.toNat)) s.cpu.y, s) := by
  rw [resolve, zeroPagePointer_wraps]

theorem resolve_ind :
    let l := busRead s a
    let h := busRead l.2 (cat (hi a) (BitVec.ofNat 8 (a.toNat % 256 + 1)))
    resolve s (.ind a) = (.at (cat h.1 l.1), h.2) := by
  rw [resolve, samePagePointer, lo_add_one]

end

theorem indexed_loc (base : Addr) (i : Byte) :
    (Resolved.indexed base i).loc = .mem (BitVec.ofNat 16 (base.toNat + i.toNat)) :=
  congrArg Loc.mem (add_zext base i)

/-- Settles O25: the place of the operand mode by mode, then the frame (`resolve_state`, `resolve_left`). -/
theorem effectiveAddresses : Obligations.EffectiveAddresses := by
  refine ⟨fun s d a => ?_, fun s o => ⟨resolve_state s, (resolve_left s o).cpu, (resolve_left s o).sameMemory⟩⟩
  exact ⟨rfl, rfl, congrArg Loc.mem (zext_eq_ofNat d), congrArg Loc.mem (zext_add d s.cpu.x),
    congrArg Loc.mem (zext_add d s.cpu.y), by rw [resolve_rel]; rfl, by rw [resolve_izx]; rfl,
    by rw [resolve_izy]; exact indexed_loc _ _, by rw [resolve_izy]; rfl, rfl, indexed_loc a s.cpu.x, rfl,
    indexed_loc a s.cpu.y, rfl, resolve_ind s a⟩

/-! ### Page crossing (R146) -/

/-- Adding an index carries into the high byte exactly when it carries out of the low byte, also across the end of the
address space. -/
theorem hi_add_zext_ne_iff (base : Addr) (i : Byte) :
    hi (base + zext i) ≠ hi base ↔ 0xFF < (lo base).toNat + i.toNat := by
  rw [Ne, hi_eq_iff, lo_toNat, BitVec.toNat_add, zext_low]
  have := base.isLt
  have := i.isLt
  omega

theorem indexed_crossed_iff (base : Addr) (i : Byte) :
    ((Resolved.indexed base i).crossed = true ↔ hi (Resolved.indexed base i).ea ≠ hi base) ∧
      ((Resolved.indexed base i).crossed = true ↔ 0xFF < (lo base).toNat + i.toNat) :=
  ⟨decide_eq_true_iff, decide_eq_true_iff.trans (hi_add_zext_ne_iff base i)⟩

/-- Only the modes that index a 16-bit base report a crossing. -/
theorem resolve_crossed_of_not_indexed (s : State) {o : Operand} (h : o.mode ∉ [Mode.ABX, Mode.ABY, Mode.IZY]) :
    (resolve s o).1.crossed = false := by
  cases o
  case abx | aby | izy => simp [Operand.mode] at h
  all_goals rfl

/-- Settles O26: `indexed_crossed_iff` at the base of each indexed mode. -/
theorem pageCrossing : Obligations.PageCrossing := by
  refine ⟨fun s o h => resolve_crossed_of_not_indexed s h, fun s a d => ?_⟩
  refine ⟨indexed_crossed_iff a s.cpu.x, indexed_crossed_iff a s.cpu.y, ?_⟩
  rw [resolve_izy]
  exact indexed_crossed_iff _ s.cpu.y

end Sys2Proof.Machine
end

section
/-! PROOF. Control transfer without an exception (R210 to R223), and the cycles of every instruction (R133, R148, R215). -/

namespace Sys2Proof.Machine

open Sys2Proof

/-! ### Jumps and subroutines (R210 to R212) -/

/-- The resolution of JMP indirect through an instruction's frame: its pointer reads do not see the cycle count. -/
theorem exec_jmpInd (a : Addr) (s : State) :
    let l := busRead s a
    let h := busRead l.2 (cat (hi a) (BitVec.ofNat 8 (a.toNat % 256 + 1)))
    exec (.jmpInd a) s = .next { h.2 with cpu := { s.cpu with pc := cat h.1 l.1, cyc := 5 } } := by
  intro l h
  have q := resolve_ind (s.setCyc 5) a
  simp only [State.setCyc, busRead_setCpu] at q
  change Host.Outcome.next (opJmp (.ind a) 5 s) = _
  rw [opJmp, runInstr, State.setCyc, q]
  rfl

theorem jmpInd_completes (a : Addr) (s : State) :
    let l := busRead s a
    let h := busRead l.2 (cat (hi a) (BitVec.ofNat 8 (a.toNat % 256 + 1)))
    ∃ t, exec (.jmpInd a) s = .next t ∧ t.cpu = { s.cpu with pc := cat h.1 l.1, cyc := 5 } ∧ SameOutsideCpu h.2 t ∧
      SameMemory s t :=
  ⟨_, exec_jmpInd a s, rfl, rfl,
    ((busRead_left s a).trans (busRead_left _ _)).sameMemory.trans (SameOutsideCpu.sameMemory rfl)⟩

/-- JSR is one 16-bit push of `PC - 1`, then the jump (R211). -/
theorem jsrAbs_completes (a : Addr) {s : State} (hr : s.ram.wf = true) :
    let ret := s.cpu.pc - 1#16
    ∃ t, exec (.jsrAbs a) s = .next t ∧
      Pushed s t [(stackCell s.cpu.sp, hi ret), (stackCell (s.cpu.sp - 1#8), lo ret)] ∧
      t.cpu = { s.cpu with sp := s.cpu.sp - 2#8, pc := a, cyc := 6 } := by
  intro ret
  have e : exec (.jsrAbs a) s = .next (((push16 (s.setCyc 6) ret).setPc a).addCyc 0) := rfl
  refine ⟨_, e, ?_, ?_⟩
  · exact (Pushed.fromCpu (pushed_push16 (s := s.setCyc 6) hr ret) (sameOutsideCpu_setCyc s 6)).thenCpu rfl
  · rw [push16_eq, sub_two]; rfl

/-- RTS is one 16-bit pull, then the jump to the address after the one pulled (R212). -/
theorem rtsImp_completes (s : State) : CompletesOnRegisters .rtsImp s fun c =>
    c = { s.cpu with
      sp := s.cpu.sp + 2#8
      pc := cat (s.ram.read (stackCell (s.cpu.sp + 2#8))) (s.ram.read (stackCell (s.cpu.sp + 1#8))) + 1#16
      cyc := 6 } := by
  have e : exec .rtsImp s =
      .next (((pop16 (s.setCyc 6)).2.setPc ((pop16 (s.setCyc 6)).1 + 1#16)).addCyc 0) := rfl
  rw [pop16_eq, add_two] at e
  exact completesOnRegisters_of e rfl rfl

/-- Settles O16: each instruction through its frame. -/
theorem jumpsAndSubroutines : Obligations.JumpsAndSubroutines :=
  ⟨fun _ _ => completesOnRegisters_of rfl rfl rfl, jmpInd_completes, fun a _ hs => jsrAbs_completes a hs.ram.1,
    rtsImp_completes⟩

/-! ### Branches (R215 to R223) -/

/-- `Branch` as a change of the CPU's registers. -/
theorem branch_eq (s : State) (c : Bool) (ea : Addr) :
    branch s c (.at ea) = { s with cpu :=
      if c then { s.cpu with pc := ea, cyc := if hi ea = hi s.cpu.pc then s.cpu.cyc + 1 else s.cpu.cyc + 2 } else s.cpu } := by
  cases c
  case false => rfl
  case true =>
    by_cases h : hi ea = hi s.cpu.pc <;>
      simp [branch, Resolved.at, Resolved.ea, State.addCyc, State.setCyc, State.setPc, h]

section
variable {i : Instr} {d : Byte} (h : i.operand = .rel d)
include h

theorem baseCycles_of_rel : i.baseCycles = 2 := by cases i <;> cases h <;> rfl

/-- An instruction in mode REL is `Branch` on its mnemonic's condition. -/
theorem exec_of_rel (s : State) :
    exec i s = .next (branch (s.setCyc 2) (branchCondition i.mnem s.cpu.p)
      (.at (BitVec.ofInt 16 (s.cpu.pc.toNat + d.toInt)))) := by
  rw [← add_sext]
  cases i <;> cases h <;> rfl

/-- The registers a branch leaves, taken or not (R215). -/
theorem branch_completes (s : State) :
    CompletesOnRegisters i s fun c =>
      let target := BitVec.ofInt 16 (s.cpu.pc.toNat + d.toInt)
      c = if branchCondition i.mnem s.cpu.p then
            { s.cpu with pc := target, cyc := if hi target = hi s.cpu.pc then 3 else 4 }
          else { s.cpu with cyc := 2 } := by
  have e := exec_of_rel h s
  rw [branch_eq] at e
  exact completesOnRegisters_of e rfl rfl

end

/-- Settles O17: `branch_completes`. -/
theorem branches : Obligations.Branches := fun _ _ s h => branch_completes h s

/-! ### Total cycles (R133, R148, R215) -/

@[simp] theorem writeOperand_cpu_cyc (s : State) (r : Resolved) (v : Byte) :
    (writeOperand s r v).cpu.cyc = s.cpu.cyc := by
  unfold writeOperand
  split
  · rfl
  · rfl
  · rw [busWrite_cpu]

@[simp] theorem push8_cpu_cyc (s : State) (v : Byte) : (push8 s v).cpu.cyc = s.cpu.cyc := by rw [push8_eq]

@[simp] theorem push16_cpu_cyc (s : State) (w : Addr) : (push16 s w).cpu.cyc = s.cpu.cyc := by rw [push16_eq]

@[simp] theorem pop8_cpu_cyc (s : State) : (pop8 s).2.cpu.cyc = s.cpu.cyc := by rw [pop8_eq]

@[simp] theorem pop16_cpu_cyc (s : State) : (pop16 s).2.cpu.cyc = s.cpu.cyc := by rw [pop16_eq]

@[simp] theorem breakEntry_cpu_cyc (s : State) : (breakEntry s).cpu.cyc = s.cpu.cyc := by
  rw [breakEntry, takeException_eq _ _ _ (by decide) (by decide)]

@[simp] theorem returnFromException_cpu_cyc (s : State) : (returnFromException s).cpu.cyc = s.cpu.cyc := by
  rw [returnFromException_eq]

/-- An instruction whose operation leaves the count alone costs its base count and its crossing (R133). -/
theorem runInstr_cyc {n : Nat} {extra : Bool} {o : Operand} {body : State → Resolved → State} {s : State}
    (hb : ∀ u r, (body u r).cpu.cyc = u.cpu.cyc) :
    (runInstr n extra o body s).cpu.cyc = n + bitNat ((resolve (s.setCyc n) o).1.crossed && extra) := by
  rw [runInstr, addCyc_cpu_cyc, hb, (resolve_left _ o).cpu]
  rfl

@[simp] theorem loadA_cpu_cyc (s : State) (v : Byte) : (loadA s v).cpu.cyc = s.cpu.cyc := rfl

@[simp] theorem addWithCarry_cpu_cyc (s : State) (m : Byte) : (addWithCarry s m).cpu.cyc = s.cpu.cyc := rfl

@[simp] theorem compareWith_cpu_cyc (s : State) (r m : Byte) : (compareWith s r m).cpu.cyc = s.cpu.cyc := rfl

@[simp] theorem unstableStore_cpu_cyc (s : State) (v : Byte) (r : Resolved) :
    (unstableStore s v r).cpu.cyc = s.cpu.cyc := by rw [unstableStore, busWrite_cpu]

@[simp] theorem shiftOp_cpu_cyc (f : Byte → Bool → Shifted) (s : State) (r : Resolved) :
    (shiftOp f s r).cpu.cyc = s.cpu.cyc := by simp [shiftOp]

@[simp] theorem shiftMemory_cpu_cyc (f : Byte → Bool → Shifted) (s : State) (r : Resolved) :
    (shiftMemory f s r).2.cpu.cyc = s.cpu.cyc := by simp [shiftMemory]

/-- Every operation but a branch leaves the count to the instruction's frame. -/
theorem operate_cyc {m : Mnemonic} (h : m.modes ≠ [.REL]) (o : Operand) (n : Nat) (s : State) :
    (operate m o n s).cpu.cyc = n + bitNat ((resolve (s.setCyc n) o).1.crossed && mayNeedExtraCycle m) := by
  cases m
  case BPL | BMI | BVC | BVS | BCC | BCS | BNE | BEQ => exact absurd rfl h
  all_goals exact runInstr_cyc fun u r => by simp

theorem Instr.modes_ne_rel {i : Instr} (h : i.mode ≠ .REL) : i.mnem.modes ≠ [.REL] :=
  fun e => h (List.mem_singleton.mp (e ▸ Instr.mode_mem i))

theorem Instr.operand_of_rel {i : Instr} (h : i.mode = .REL) : ∃ d, i.operand = .rel d := by
  rw [Instr.mode] at h
  cases ho : i.operand <;> rw [ho] at h <;> cases h
  exact ⟨_, rfl⟩

/-- `Branch` costs nothing where it is not taken, one cycle in the page of the next instruction, two outside it (R215). -/
theorem branch_cyc (s : State) (c : Bool) (ea : Addr) :
    (branch s c (.at ea)).cpu.cyc = s.cpu.cyc + if c then (if hi ea = hi s.cpu.pc then 1 else 2) else 0 := by
  rw [branch_eq]
  cases c
  · rfl
  · exact (add_ite _ _ _ _).symm

/-- Settles O27: outside mode REL the operation leaves the count to its frame (`operate_cyc`); in mode REL it is a branch. -/
theorem totalCycles : Obligations.TotalCycles := by
  intro i s
  refine ⟨_, exec_eq i s, fun h => operate_cyc (Instr.modes_ne_rel h) _ _ s, fun h => ?_⟩
  obtain ⟨d, hd⟩ := Instr.operand_of_rel h
  have e := Host.Outcome.next.inj ((exec_eq i s).symm.trans (exec_of_rel hd s))
  rw [e, branch_cyc, operandAt, hd, resolve_rel, baseCycles_of_rel hd]
  rfl

end Sys2Proof.Machine
end

section
/-! PROOF. The step that starts an instruction: the fetch by the shape of the opcode (R110, R132), and the slot that runs
what it fetched (R130, R131, R380). -/

namespace Sys2Proof.Machine

open Sys2Proof

/-! ### The fetch by shape -/

theorem fetchInstr_one {s : State} {i : Instr} (h : opcodeShape (fetchByte s).1 = .one i) :
    fetchInstr s = (i, (fetchByte s).2) := by
  simp only [fetchInstr, h]

theorem fetchInstr_two {s : State} {f : Byte → Instr} (h : opcodeShape (fetchByte s).1 = .two f) :
    fetchInstr s = (f (fetchByte (fetchByte s).2).1, (fetchByte (fetchByte s).2).2) := by
  simp only [fetchInstr, h]

theorem fetchInstr_three {s : State} {f : Addr → Instr} (h : opcodeShape (fetchByte s).1 = .three f) :
    fetchInstr s =
      (f (cat (fetchByte (fetchByte (fetchByte s).2).2).1 (fetchByte (fetchByte s).2).1),
        (fetchByte (fetchByte (fetchByte s).2).2).2) := by
  simp only [fetchInstr, h]

/-! ### The fetch from anywhere -/

/-- What fetching `n` bytes leaves: `PC` past them, every memory as it was. -/
structure Fetched (n : Nat) (s t : State) : Prop where
  cpu : t.cpu = { s.cpu with pc := s.cpu.pc + BitVec.ofNat 16 n }
  memory : SameMemory s t

theorem fetched_fetchByte (s : State) : Fetched 1 s (fetchByte s).2 :=
  have moved : SameOutsideCpu s (s.setPc (s.cpu.pc + 1#16)) := rfl
  ⟨(fetchByte_left s).cpu, moved.sameMemory.trans (fetchByte_left s).sameMemory⟩

theorem Fetched.next {n : Nat} {s t : State} (h : Fetched n s t) : Fetched (n + 1) s (fetchByte t).2 := by
  have b := fetched_fetchByte t
  refine ⟨?_, h.memory.trans b.memory⟩
  rw [b.cpu, h.cpu, BitVec.ofNat_add, BitVec.add_assoc]

/-- The instruction fetched has the first byte read as its opcode, and its own length is what was fetched. -/
theorem fetchInstr_spec (s : State) :
    (fetchInstr s).1.opcode = (busRead s s.cpu.pc).1 ∧ Fetched (fetchInstr s).1.length s (fetchInstr s).2 := by
  have spec := opcodeShape_spec (fetchByte s).1
  have one := fetched_fetchByte s
  cases hs : opcodeShape (fetchByte s).1 <;> rw [hs] at spec
  case one i =>
    rw [fetchInstr_one hs, spec.1]
    exact ⟨spec.2, one⟩
  case two f =>
    rw [fetchInstr_two hs, (spec _).1]
    exact ⟨(spec _).2, one.next⟩
  case three f =>
    rw [fetchInstr_three hs, (spec _).1]
    exact ⟨(spec _).2, one.next.next⟩

/-! ### The fetch off the device ports -/

theorem fetchByte_setPc (s : State) {n : Nat} (h : isDevice (s.cpu.pc + BitVec.ofNat 16 n) = false) :
    fetchByte (s.setPc (s.cpu.pc + BitVec.ofNat 16 n)) =
      (busPeek s (s.cpu.pc + BitVec.ofNat 16 n), s.setPc (s.cpu.pc + BitVec.ofNat 16 (n + 1))) := by
  rw [fetchByte_eq (s.setPc _) rfl h, BitVec.ofNat_add, ← BitVec.add_assoc]
  rfl

/-- Off the device ports the fetch gives the instruction that the bytes shown at `PC` decode to, and moves `PC` only. -/
theorem fetchInstr_of_decode {s : State} {i : Instr} {rest : List Byte}
    (hd : decode [busPeek s s.cpu.pc, busPeek s (s.cpu.pc + 1#16), busPeek s (s.cpu.pc + 2#16)] = .ok (i, rest))
    (hk : ∀ k < i.length, isDevice (s.cpu.pc + BitVec.ofNat 16 k) = false) :
    fetchInstr s = (i, s.setPc (s.cpu.pc + BitVec.ofNat 16 i.length)) := by
  have spec := opcodeShape_spec (busPeek s s.cpu.pc)
  have pos : 0 < i.length := by rw [Instr.length, Mode.length]; omega
  have b0 : fetchByte s = (busPeek s s.cpu.pc, s.setPc (s.cpu.pc + 1#16)) :=
    fetchByte_eq s rfl (by simpa using hk 0 pos)
  have op : (fetchByte s).1 = busPeek s s.cpu.pc := by rw [b0]
  cases hs : opcodeShape (busPeek s s.cpu.pc) <;> rw [hs] at spec
  case one j =>
    obtain ⟨rfl, -⟩ := Prod.mk.inj (Except.ok.inj ((decode_one hs _).symm.trans hd))
    rw [fetchInstr_one (op.symm ▸ hs), spec.1, b0]
  case two f =>
    obtain ⟨rfl, -⟩ := Prod.mk.inj (Except.ok.inj ((decode_two hs _ _).symm.trans hd))
    have len := (spec (busPeek s (s.cpu.pc + 1#16))).1
    have b1 := fetchByte_setPc s (hk 1 (by omega))
    rw [fetchInstr_two (op.symm ▸ hs), len, b0, b1]
  case three f =>
    obtain ⟨rfl, -⟩ := Prod.mk.inj (Except.ok.inj ((decode_three hs _ _ _).symm.trans hd))
    have len := (spec (cat (busPeek s (s.cpu.pc + 2#16)) (busPeek s (s.cpu.pc + 1#16)))).1
    have b1 := fetchByte_setPc s (hk 1 (by omega))
    have b2 := fetchByte_setPc s (hk 2 (by omega))
    rw [fetchInstr_three (op.symm ▸ hs), len, b0, b1, b2]

/-! ### The slot -/

/-- In a CPU slot that no DMA owns, with no cycle owed and the CPU not halted, a step is the fetch and the instruction on
the machine after the PPU's dot, then the end of the slot and of the tick. -/
theorem step_of_productive {s : State} (ht : s.tick % 3 = 0) (hd : s.dma.active = false) (hh : s.cpu.halted = false)
    (hc : s.cpu.cyc = 0) :
    step s = thenNext (exec (fetchInstr (ppuClock s)).1 (fetchInstr (ppuClock s)).2)
      (fun v => endTick (afterProductive v)) := by
  have hcpu := ppuClock_cpu s
  have htick : (ppuClock s).tick = s.tick := by rw [(ppuClock_stage s).only]
  have hdma : (ppuClock s).dma = s.dma := by rw [(ppuClock_stage s).only]
  simp only [step, busClock, cpuSlot, cpuClock, hcpu, htick, hdma, ht, hd, hh, hc, if_true, Bool.false_eq_true, if_false,
    executeInstruction, thenNext_thenNext]

/-- Settles O5: the step is `step_of_productive`; what it fetched is the decoded instruction off the device ports
(`fetchInstr_of_decode`), and an instruction of the opcode read in any case (`fetchInstr_spec`). -/
theorem stepRunsDecodedInstruction : Obligations.StepRunsDecodedInstruction := by
  constructor
  · intro s i rest u pc ht hd hh hc hdec hk
    rw [step_of_productive ht hd hh hc, fetchInstr_of_decode hdec hk]
  · intro s u ht hd hh hc
    obtain ⟨hop, hf⟩ := fetchInstr_spec u
    exact ⟨_, _, step_of_productive ht hd hh hc, hop, hf.cpu, hf.memory⟩

end Sys2Proof.Machine
end

section
/-! PROOF. Loads, stores, transfers and the index increments (R150 to R161, R181 to R184, R255, R256): each is an
instruction's frame of one shape, whose completion lemma stands in Laws/Complete. -/

namespace Sys2Proof.Machine

open Sys2Proof

/-- What `SetZN(v)` leaves in the status (R12). -/
theorem znOf_flagsKept_zn (p v : Byte) : ZnOf v (znFlags p v) ∧ FlagsKept [.Z, .N] p (znFlags p v) :=
  ⟨znOf_zn p v, flagsKept_zn p v⟩

section
variable {i : Instr} {m : Mnemonic} (h : i.mnem = m)
include h

theorem Instr.mode_ne_of_mnem {md : Mode} (hm : md ∉ m.modes) : i.mode ≠ md :=
  fun e => hm (h ▸ e ▸ Instr.mode_mem i)

/-! ### Loads -/

/-- A load whose register write is `put`, the cycle count and the status apart (R150 to R152, R256). -/
theorem load_completes (put : Cpu → Byte → Cpu) {s : State} (hm : .IND ∉ m.modes)
    (hop : operate m = fun o n => runInstr n true o fun u r =>
      let q := readOperand u r
      State.setZN { q.2 with cpu := put q.2.cpu q.1 } q.1)
    (hput : ∀ n v, put { s.cpu with cyc := n } v = { put s.cpu v with p := s.cpu.p, cyc := n }) :
    CompletesReading i s fun v x c =>
      c = { put s.cpu v with p := c.p, cyc := i.baseCycles + bitNat x } ∧ ZnOf v c.p ∧
        FlagsKept [.Z, .N] s.cpu.p c.p := by
  have he := exec_of_mnem h s
  rw [hop] at he
  refine completesReading_of (upd := fun u v => State.setZN { u with cpu := put u.cpu v } v) he
    (Instr.mode_ne_of_mnem h hm) (fun _ _ => rfl) fun u v x hu => ?_
  have hc : (State.setZN { u with cpu := put u.cpu v } v).cpu =
      { put s.cpu v with p := znFlags s.cpu.p v, cyc := i.baseCycles } := by
    rw [hu, hput]
    rfl
  rw [hc, Bool.and_true]
  exact ⟨rfl, znOf_flagsKept_zn s.cpu.p v⟩

/-! ### Stores -/

/-- A store of `v`, which the cycle count does not reach (R153 to R155, R255). -/
theorem store_completes (v : Cpu → Byte) {s : State} (hs : s.Inv) (hm : ∀ md ∈ m.modes, md ∉ [.IND, .IMP, .IMM])
    (hop : operate m = fun o n => runInstr n false o fun u r => writeOperand u r (v u.cpu)) :
    CompletesStoring i s (v { s.cpu with cyc := i.baseCycles }) fun c => c = { s.cpu with cyc := i.baseCycles } := by
  have he := exec_of_mnem h s
  rw [hop] at he
  have ne (md : Mode) (hmem : md ∈ [.IND, .IMP, .IMM]) : i.mode ≠ md :=
    Instr.mode_ne_of_mnem h fun hmd => hm md hmd hmem
  exact completesStoring_of hs he (ne _ (by decide)) (ne _ (by decide)) (ne _ (by decide)) rfl

end

/-- Settles O7: each load is `load_completes` with its own register write. -/
theorem loadInstructions : Obligations.LoadInstructions := fun _ _ =>
  ⟨fun h => load_completes h (fun c v => { c with a := v }) (by decide) rfl fun _ _ => rfl,
    fun h => load_completes h (fun c v => { c with x := v }) (by decide) rfl fun _ _ => rfl,
    fun h => load_completes h (fun c v => { c with y := v }) (by decide) rfl fun _ _ => rfl,
    fun h => load_completes h (fun c v => { c with a := v, x := v }) (by decide) rfl fun _ _ => rfl⟩

/-- Settles O8: each store is `store_completes` with its own byte. -/
theorem storeInstructions : Obligations.StoreInstructions := fun _ _ hs =>
  ⟨fun h => store_completes h Cpu.a hs (by decide) rfl,
    fun h => store_completes h Cpu.x hs (by decide) rfl,
    fun h => store_completes h Cpu.y hs (by decide) rfl,
    fun h => store_completes h (fun c => c.a &&& c.x) hs (by decide) rfl⟩

/-! ### Transfers and index increments -/

/-- Settles O9: each instruction changes CPU registers only; `inc` and `dec` are the two steps as integers modulo
256. -/
theorem registerInstructions : Obligations.RegisterInstructions := by
  intro s zn
  have inc (v : Byte) : (v + 1#8).toNat = (v.toNat + 1) % 256 := BitVec.toNat_add v 1#8
  have dec (v : Byte) : (v - 1#8).toNat = (v.toNat + 255) % 256 := by bv_omega
  exact ⟨completesOnRegisters_of rfl rfl ⟨rfl, znOf_flagsKept_zn _ _⟩,
    completesOnRegisters_of rfl rfl ⟨rfl, znOf_flagsKept_zn _ _⟩,
    completesOnRegisters_of rfl rfl ⟨rfl, znOf_flagsKept_zn _ _⟩,
    completesOnRegisters_of rfl rfl ⟨rfl, znOf_flagsKept_zn _ _⟩,
    completesOnRegisters_of rfl rfl ⟨rfl, znOf_flagsKept_zn _ _⟩,
    completesOnRegisters_of rfl rfl rfl,
    completesOnRegisters_of rfl rfl ⟨inc _, rfl, znOf_flagsKept_zn _ _⟩,
    completesOnRegisters_of rfl rfl ⟨inc _, rfl, znOf_flagsKept_zn _ _⟩,
    completesOnRegisters_of rfl rfl ⟨dec _, rfl, znOf_flagsKept_zn _ _⟩,
    completesOnRegisters_of rfl rfl ⟨dec _, rfl, znOf_flagsKept_zn _ _⟩⟩

end Sys2Proof.Machine
end

section
/-! PROOF. Arithmetic, logic, compare and memory increments (R170 to R180, R190 to R192, R263): the two shared formulas, then
each instruction through the frame that its shape completes by. -/

namespace Sys2Proof.Machine

open Sys2Proof

/-! ### `AddWithCarry` and `Compare` (R191, R192) -/

theorem add_carry (p a m : Byte) :
    getFlag (addFlags p a m) .C = decide (0xFF < sumWide a m (getFlag p .C)) := by
  simp [addFlags, znFlags]

theorem add_overflow (p a m : Byte) :
    getFlag (addFlags p a m) .V =
      decide (~~~(a ^^^ m) &&& (a ^^^ sumByte a m (getFlag p .C)) &&& 0x80#8 ≠ 0#8) := by
  simp [addFlags, znFlags]

section
variable (a m r : Byte)

/-- The two spellings of signed overflow are one function of the sign bits: `~(a ^ m) & (a ^ r)` and `(a ^ r) & (m ^ r)`
agree in bit 7. -/
theorem overflow_spellings :
    decide (~~~(a ^^^ m) &&& (a ^^^ r) &&& 0x80#8 ≠ 0#8) = decide ((a ^^^ r) &&& (m ^^^ r) &&& 0x80#8 ≠ 0#8) := by
  rw [masked_bit7, masked_bit7]
  simp only [BitVec.getLsbD_and, BitVec.getLsbD_not, BitVec.getLsbD_xor]
  cases a.getLsbD 7 <;> cases m.getLsbD 7 <;> cases r.getLsbD 7 <;> rfl

theorem overflow_iff_signs :
    decide (~~~(a ^^^ m) &&& (a ^^^ r) &&& 0x80#8 ≠ 0#8) = true ↔
      a.getLsbD 7 = m.getLsbD 7 ∧ r.getLsbD 7 ≠ a.getLsbD 7 := by
  rw [masked_bit7]
  simp only [BitVec.getLsbD_and, BitVec.getLsbD_not, BitVec.getLsbD_xor]
  cases a.getLsbD 7 <;> cases m.getLsbD 7 <;> cases r.getLsbD 7 <;> decide

end

section
variable (p r m : Byte)

theorem compare_carry : getFlag (compareFlags p r m) .C = decide (m.toNat ≤ r.toNat) := by simp [compareFlags]

theorem compare_zero : getFlag (compareFlags p r m) .Z = decide (r = m) := by simp [compareFlags]

theorem compare_negative : getFlag (compareFlags p r m) .N = (r - m).getLsbD 7 := by simp [compareFlags]

end

/-- The 8-bit difference as an integer (R192). -/
theorem sub_eq_ofNat (r m : Byte) : r - m = BitVec.ofNat 8 ((r.toNat + 256 - m.toNat) % 256) := by bv_omega

/-- Settles O15: the flags of `addFlags` and `compareFlags` one by one; both spellings of V are `overflow_spellings`, and
the rule's examples are the comparison's flags at their operands. -/
theorem addAndCompareFormulas : Obligations.AddAndCompareFormulas := by
  refine ⟨fun s m => ?_, fun s r m => ?_, fun s => ?_⟩
  · have hv := add_overflow s.cpu.p s.cpu.a m
    exact ⟨rfl, add_carry _ _ _, hv ▸ overflow_iff_signs _ _ _, hv, hv.trans (overflow_spellings _ _ _), znOf_zn _ _,
      flagsKept_add _ _ _⟩
  · refine ⟨rfl, compare_carry _ _ _, compare_zero _ _ _, ?_, flagsKept_compare _ _ _⟩
    rw [← sub_eq_ofNat]
    exact compare_negative _ _ _
  · exact ⟨compare_negative _ _ _, compare_carry _ _ _, compare_negative _ _ _, compare_carry _ _ _⟩

section
variable {i : Instr} {n : Mnemonic} (h : i.mnem = n)
include h

/-! ### Reading an operand into the CPU's registers -/

/-- An instruction that reads its operand and then changes the CPU by `put`, which neither reads nor writes the cycle
count. -/
theorem operand_completes (put : Cpu → Byte → Cpu) (extra : Bool) {s : State} {regs : Byte → Bool → Cpu → Prop}
    (hm : .IND ∉ n.modes)
    (hop : operate n = fun o base => runInstr base extra o fun u r =>
      let q := readOperand u r
      { q.2 with cpu := put q.2.cpu q.1 })
    (hput : ∀ k v, put { s.cpu with cyc := k } v = { put s.cpu v with cyc := k })
    (hr : ∀ v x, regs v x { put s.cpu v with cyc := i.baseCycles + if extra then bitNat x else 0 }) :
    CompletesReading i s regs := by
  have he := exec_of_mnem h s
  rw [hop] at he
  refine completesReading_of (upd := fun u v => { u with cpu := put u.cpu v }) he (Instr.mode_ne_of_mnem h hm)
    (fun _ _ => rfl) fun u v x hu => ?_
  have hx : bitNat (x && extra) = if extra then bitNat x else 0 := by cases extra <;> cases x <;> rfl
  change regs v x { put u.cpu v with cyc := (put u.cpu v).cyc + bitNat (x && extra) }
  rw [hu, hput, hx]
  exact hr v x

/-- AND, ORA and EOR, which differ in the bitwise operation alone (R172 to R174). -/
theorem logic_completes (f : Byte → Byte → Byte) (s : State) (hm : .IND ∉ n.modes)
    (hop : operate n = fun o base => runInstr base true o fun u r =>
      let q := readOperand u r
      loadA q.2 (f q.2.cpu.a q.1)) :
    CompletesReading i s fun v x c =>
      c = { s.cpu with a := f s.cpu.a v, p := c.p, cyc := i.baseCycles + bitNat x } ∧ ZnOf (f s.cpu.a v) c.p ∧
        FlagsKept [.Z, .N] s.cpu.p c.p :=
  operand_completes h (fun c v => { c with a := f c.a v, p := znFlags c.p (f c.a v) }) true hm hop (fun _ _ => rfl)
    fun _ _ => ⟨rfl, znOf_flagsKept_zn _ _⟩

/-- CMP, CPX and CPY, which differ in the register and in the cycle of a crossing (R175 to R177). -/
theorem compare_completes (reg : Cpu → Byte) (extra : Bool) (s : State) (hm : .IND ∉ n.modes)
    (hop : operate n = fun o base => runInstr base extra o fun u r =>
      let q := readOperand u r
      compareWith q.2 (reg q.2.cpu) q.1)
    (hreg : ∀ k, reg { s.cpu with cyc := k } = reg s.cpu) :
    CompletesReading i s fun v x c =>
      c = { s.cpu with p := c.p, cyc := i.baseCycles + if extra then bitNat x else 0 } ∧
        Compared (reg s.cpu) v c.p ∧ FlagsKept [.C, .Z, .N] s.cpu.p c.p :=
  operand_completes h (fun c v => { c with p := compareFlags c.p (reg c) v }) extra hm hop
    (fun k v => by rw [hreg]) fun _ _ => ⟨rfl, compared_compare _ _ _, flagsKept_compare _ _ _⟩

/-! ### Stepping an operand in memory -/

/-- INC and DEC (R179, R180), `f` being the step. -/
theorem memoryStep_completes {f g : Byte → Byte} (hf : ∀ v, g v = f v) {s : State} (hs : s.Inv)
    (hm : ∀ md ∈ n.modes, md ∉ [.IND, .IMP, .IMM])
    (hop : operate n = fun o base => runInstr base false o fun u r =>
      let q := readOperand u r
      (writeOperand q.2 r (g q.1)).setZN (g q.1)) :
    CompletesModifying i s f fun v c =>
      c = { s.cpu with p := c.p, cyc := i.baseCycles } ∧ ZnOf (f v) c.p ∧ FlagsKept [.Z, .N] s.cpu.p c.p := by
  obtain rfl : g = f := funext hf
  have he := exec_of_mnem h s
  rw [hop] at he
  have ne (md : Mode) (hmem : md ∈ [.IND, .IMP, .IMM]) : i.mode ≠ md :=
    Instr.mode_ne_of_mnem h fun hmd => hm md hmd hmem
  refine completesModifying_of hs he (ne _ (by decide)) (ne _ (by decide)) (ne _ (by decide)) fun u r ea hl hu => ?_
  simp only [readOperand, writeOperand, hl]
  have hc (v : Byte) : ((busWrite (busRead u ea).2 ea v).setZN v).cpu =
      { s.cpu with p := znFlags s.cpu.p v, cyc := i.baseCycles } := by
    simp only [State.setZN, State.setP, busWrite_cpu, busRead_cpu, hu]
  rw [hc]
  exact ⟨rfl, rfl, znOf_flagsKept_zn _ _⟩

end

/-- Settles O10: both are `AddWithCarry`, SBC of the operand's complement (`addedTo_add`, `subtractedFrom_add`). -/
theorem addAndSubtract : Obligations.AddAndSubtract := fun _ _ =>
  ⟨fun h => operand_completes h
      (fun c v => { c with a := sumByte c.a v (getFlag c.p .C), p := addFlags c.p c.a v })
      true (by decide) rfl (fun _ _ => rfl) fun _ _ => ⟨rfl, addedTo_add _ _ _, flagsKept_add _ _ _⟩,
    fun h => operand_completes h
      (fun c v => { c with
        a := sumByte c.a (v ^^^ 0xFF#8) (getFlag c.p .C), p := addFlags c.p c.a (v ^^^ 0xFF#8) })
      true (by decide) rfl (fun _ _ => rfl) fun _ _ => ⟨rfl, subtractedFrom_add _ _ _, flagsKept_add _ _ _⟩⟩

/-- Settles O11: each is `logic_completes` with its own operation on bytes. -/
theorem logicInstructions : Obligations.LogicInstructions := fun _ s =>
  ⟨fun h => logic_completes h (· &&& ·) s (by decide) rfl,
    fun h => logic_completes h (· ||| ·) s (by decide) rfl,
    fun h => logic_completes h (· ^^^ ·) s (by decide) rfl⟩

/-- Settles O12: the comparisons are `compare_completes`, each with its own register; BIT is `bitFlags`. -/
theorem compareAndBitTest : Obligations.CompareAndBitTest := fun _ s =>
  ⟨fun h => compare_completes h Cpu.a true s (by decide) rfl fun _ => rfl,
    fun h => compare_completes h Cpu.x false s (by decide) rfl fun _ => rfl,
    fun h => compare_completes h Cpu.y false s (by decide) rfl fun _ => rfl,
    fun h => operand_completes h (fun c v => { c with p := bitFlags c.p c.a v }) false (by decide) rfl
      (fun _ _ => rfl) fun v _ =>
        ⟨rfl, by rw [bit_zero, decide_eq_true_iff], bit_negative _ _ v, bit_overflow _ _ v, flagsKept_bit _ _ _⟩⟩

/-- Settles O13: each is `memoryStep_completes`; the steps are integers modulo 256. -/
theorem memoryIncrements : Obligations.MemoryIncrements := by
  have inc (v : Byte) : v + 1#8 = BitVec.ofNat 8 (v.toNat + 1) := by bv_omega
  have dec (v : Byte) : v - 1#8 = BitVec.ofNat 8 (v.toNat + 255) := by bv_omega
  exact fun _ _ hs =>
    ⟨fun h => memoryStep_completes h inc hs (by decide) rfl, fun h => memoryStep_completes h dec hs (by decide) rfl⟩

end Sys2Proof.Machine
end

section
/-! PROOF. Shifts and rotates (R200 to R204): `ShiftOp` on `A` and on a byte of memory, then each instruction through its
shift function in integer arithmetic. -/

namespace Sys2Proof.Machine

open Sys2Proof

/-- What a shift of result `v` and carry `c` leaves in the status (R200). -/
theorem shiftFlags_spec (p v : Byte) (c : Bool) :
    ZnOf v (shiftFlags p ⟨v, c⟩) ∧ getFlag (shiftFlags p ⟨v, c⟩) .C = c ∧
      FlagsKept [.C, .Z, .N] p (shiftFlags p ⟨v, c⟩) :=
  ⟨znOf_shift _ _, shift_carry _ _, flagsKept_shift _ _⟩

/-- Mode IMP has one operand. -/
theorem Instr.operand_of_mode_imp {i : Instr} (h : i.mode = .IMP) : i.operand = .imp := by
  unfold Instr.mode at h
  cases ho : i.operand
  case imp => rfl
  all_goals rw [ho] at h; cases h

/-! ### `ShiftOp` (R200) -/

/-- On memory: one read and one store of the result at the same address, the flags in between. -/
theorem shiftOp_mem (f : Byte → Bool → Shifted) (u : State) {r : Resolved} {ea : Addr} (h : r.loc = .mem ea) :
    let m := (busRead u ea).1
    let v := f m (getFlag u.cpu.p .C)
    shiftOp f u r = { busWrite (busRead u ea).2 ea v.val with cpu := { u.cpu with p := shiftFlags u.cpu.p v } } := by
  simp only [shiftOp, readOperand, writeOperand, h, State.flag, State.setP, busWrite_setCpu, busRead_cpu]

section
variable {i : Instr} {n : Mnemonic} (h : i.mnem = n) {f : Byte → Bool → Shifted} {r : Byte → Byte} {c : Byte → Bool}
  {s : State} (hf : ∀ v, f v (getFlag s.cpu.p .C) = ⟨r v, c v⟩)
  (hop : operate n = fun o base => runInstr base false o (shiftOp f))
include h hf hop

/-- The accumulator form. -/
theorem shift_completes_on_a (hi : i.mode = .IMP) :
    CompletesOnRegisters i s fun d =>
      d = { s.cpu with a := r s.cpu.a, p := d.p, cyc := i.baseCycles } ∧ ZnOf (r s.cpu.a) d.p ∧
        getFlag d.p .C = c s.cpu.a ∧ FlagsKept [.C, .Z, .N] s.cpu.p d.p := by
  have he := exec_of_mnem h s
  rw [hop, Instr.operand_of_mode_imp hi] at he
  refine completesOnRegisters_of he rfl ?_
  have hc : (runInstr i.baseCycles false .imp (shiftOp f) s).cpu =
      { s.cpu with
        a := (f s.cpu.a (getFlag s.cpu.p .C)).val
        p := shiftFlags s.cpu.p (f s.cpu.a (getFlag s.cpu.p .C))
        cyc := i.baseCycles } := rfl
  rw [hc, hf]
  exact ⟨rfl, shiftFlags_spec _ _ _⟩

/-- The memory forms. -/
theorem shift_completes_on_memory (hs : s.Inv) (hm : ∀ md ∈ n.modes, md ∉ [.IND, .IMM]) (hi : i.mode ≠ .IMP) :
    CompletesModifying i s r fun m d =>
      d = { s.cpu with p := d.p, cyc := i.baseCycles } ∧ ZnOf (r m) d.p ∧ getFlag d.p .C = c m ∧
        FlagsKept [.C, .Z, .N] s.cpu.p d.p := by
  have he := exec_of_mnem h s
  rw [hop] at he
  have ne (md : Mode) (hmem : md ∈ [.IND, .IMM]) : i.mode ≠ md :=
    Instr.mode_ne_of_mnem h fun hmd => hm md hmd hmem
  refine completesModifying_of hs he (ne _ (by decide)) hi (ne _ (by decide)) fun u q ea hl hu => ?_
  have hp : u.cpu.p = s.cpu.p := by rw [hu]
  rw [shiftOp_mem f u hl, hp, hf, hu]
  exact ⟨rfl, rfl, shiftFlags_spec _ _ _⟩

/-- A shift instruction whose function is `r` with carry `c` at the carry of `s`. -/
theorem shift_completes (hs : s.Inv) (hm : ∀ md ∈ n.modes, md ∉ [.IND, .IMM]) : CompletesShifting i s r c :=
  ⟨shift_completes_on_a h hf hop, shift_completes_on_memory h hf hop hs hm⟩

end

/-- Settles O14: each is `shift_completes` with its shift function in integer arithmetic. -/
theorem shiftsAndRotates : Obligations.ShiftsAndRotates := fun _ _ hs =>
  ⟨fun h => shift_completes h (fun v => asl_eq v _) rfl hs (by decide),
    fun h => shift_completes h (fun v => lsr_eq v _) rfl hs (by decide),
    fun h => shift_completes h (fun v => rol_eq v _) rfl hs (by decide),
    fun h => shift_completes h (fun v => ror_eq v _) rfl hs (by decide)⟩

end Sys2Proof.Machine
end

section
/-! PROOF. Calls and exceptions return (R211 to R214, R481): each entry and each return as a whole, then the bytes the one
pushed are those the other pulls. -/

namespace Sys2Proof.Machine

open Sys2Proof

/-! ### Taking an exception (R214, R474 to R476) -/

/-- An exception that adds `k` cycles, from a CPU whose count alone has changed since `s`. -/
theorem entered_addCyc {s s' : State} (hs : SameOutsideCpu s s') (hc : s'.cpu = { s.cpu with cyc := s'.cpu.cyc })
    (hr : s.ram.wf = true) (ret : Addr) (status : Byte) {v : Addr} (h : 0x8000 ≤ v.toNat) (h' : v.toNat < 0xFFFF) (k : Nat) :
    Entered s ((takeException s' ret status v).addCyc k) ret status v (s'.cpu.cyc + k) := by
  have hn : (takeException s' ret status v).cpu.cyc = s'.cpu.cyc := by rw [takeException_eq s' ret status h h']
  exact entered_takeException hs hc hr h h' (by rw [State.addCyc, hn])

/-- BRK is `breakEntry` after its seven cycles are written. -/
theorem brkImp_completes {s : State} (hr : s.ram.wf = true) :
    ∃ t, exec .brkImp s = .next t ∧ Entered s t (s.cpu.pc + 1#16) (pushedByInstr s.cpu.p) irqVector 7 :=
  ⟨_, rfl, entered_addCyc (sameOutsideCpu_setCyc s 7) rfl hr _ _ (by decide) (by decide) 0⟩

theorem interruptEntry_entered {s : State} (hr : s.ram.wf = true) {v : Addr} (h : 0x8000 ≤ v.toNat) (h' : v.toNat < 0xFFFF) :
    Entered s (interruptEntry s v) s.cpu.pc (pushedByInterrupt s.cpu.p) v (s.cpu.cyc + 7) :=
  entered_addCyc (s' := s) rfl rfl hr _ _ h h' 7

theorem cpuNmi_entered {s : State} (hr : s.ram.wf = true) (hh : s.cpu.halted = false) :
    Entered s (cpuNmi s) s.cpu.pc (pushedByInterrupt s.cpu.p) nmiVector (s.cpu.cyc + 7) := by
  rw [cpuNmi, if_neg (by simp [hh])]
  exact interruptEntry_entered hr (by decide) (by decide)

theorem cpuIrq_entered {s : State} (hr : s.ram.wf = true) (hh : s.cpu.halted = false) (hi : getFlag s.cpu.p .I = false) :
    Entered s (cpuIrq s) s.cpu.pc (pushedByInterrupt s.cpu.p) irqVector (s.cpu.cyc + 7) := by
  rw [cpuIrq, if_neg (by simp [hh]), if_neg (by simp [State.flag, hi])]
  exact interruptEntry_entered hr (by decide) (by decide)

/-! ### RTI (R213, R481) -/

/-- RTI is `returnFromException` after its six cycles are written. -/
theorem rtiImp_completes (s : State) : CompletesOnRegisters .rtiImp s fun c =>
    c = { s.cpu with
      sp := s.cpu.sp + 3#8
      p := pulledStatus (s.ram.read (stackCell (s.cpu.sp + 1#8)))
      pc := cat (s.ram.read (stackCell (s.cpu.sp + 3#8))) (s.ram.read (stackCell (s.cpu.sp + 2#8)))
      cyc := 6 } := by
  have e : exec .rtiImp s = .next ((returnFromException (s.setCyc 6)).addCyc 0) := rfl
  rw [returnFromException_eq] at e
  exact completesOnRegisters_of e rfl rfl

/-! ### There and back -/

theorem sub_two_add_one (q : Byte) : q - 2#8 + 1#8 = q - 1#8 := by bv_omega

theorem sub_three_add_one (q : Byte) : q - 3#8 + 1#8 = q - 2#8 := by bv_omega

theorem sub_three_add_two (q : Byte) : q - 3#8 + 2#8 = q - 1#8 := by bv_omega

/-- RTS after JSR: the word pulled is the `PC - 1` pushed. -/
theorem rtsImp_after_jsrAbs (a : Addr) {s : State} (hr : s.ram.wf = true) :
    ∃ t u, exec (.jsrAbs a) s = .next t ∧ exec .rtsImp t = .next u ∧ u.cpu = { s.cpu with cyc := 6 } := by
  obtain ⟨t, ht, hp, hc⟩ := jsrAbs_completes a hr
  obtain ⟨u, hu, hcu, -⟩ := rtsImp_completes t
  refine ⟨t, u, ht, hu, ?_⟩
  have high : t.ram.read (stackCell s.cpu.sp) = hi (s.cpu.pc - 1#16) := hp.holds _ (.head _)
  have low : t.ram.read (stackCell (s.cpu.sp - 1#8)) = lo (s.cpu.pc - 1#16) := hp.holds _ (.tail _ (.head _))
  rw [hcu, hc]
  simp only [BitVec.sub_add_cancel, sub_two_add_one, high, low, cat_hi_lo]

/-- RTI after an exception: every register as before it but `PC`, which is the return address pushed. -/
theorem Entered.rtiImp_returns {s t : State} {ret : Addr} {status : Byte} {v : Addr} {n : Nat}
    (h : Entered s t ret status v n) (hst : pulledStatus status = s.cpu.p) :
    ∃ u, exec .rtiImp t = .next u ∧ u.cpu = { s.cpu with pc := ret, cyc := 6 } := by
  obtain ⟨hp, hc, -, -⟩ := h
  obtain ⟨u, hu, hcu, -⟩ := rtiImp_completes t
  refine ⟨u, hu, ?_⟩
  have high : t.ram.read (stackCell s.cpu.sp) = hi ret := hp.holds _ (.head _)
  have low : t.ram.read (stackCell (s.cpu.sp - 1#8)) = lo ret := hp.holds _ (.tail _ (.head _))
  have flags : t.ram.read (stackCell (s.cpu.sp - 2#8)) = status := hp.holds _ (.tail _ (.tail _ (.head _)))
  rw [hcu, hc]
  simp only [BitVec.sub_add_cancel, sub_three_add_one, sub_three_add_two, high, low, flags, hst, cat_hi_lo]

/-- Settles O53: RTS pulls what JSR pushed (`rtsImp_after_jsrAbs`), and RTI undoes each of the three ways an exception is
entered (`Entered.rtiImp_returns`). After an IRQ that I held off RTI still completes, on whatever the stack holds. -/
theorem returnsRestoreTheCpu : Obligations.ReturnsRestoreTheCpu := by
  intro s hs
  have wf := Inv.ramWf hs
  obtain ⟨unused, notBreak, -⟩ := hs.cpu
  have byInterrupt : pulledStatus (pushedByInterrupt s.cpu.p) = s.cpu.p :=
    pulledStatus_pushedByInterrupt unused notBreak
  refine ⟨fun a => rtsImp_after_jsrAbs a wf, ?brk, fun hh => (cpuNmi_entered wf hh).rtiImp_returns byInterrupt, ?irq⟩
  case brk =>
    obtain ⟨t, ht, he⟩ := brkImp_completes wf
    obtain ⟨u, hu⟩ := he.rtiImp_returns (pulledStatus_pushedByInstr unused notBreak)
    exact ⟨t, u, ht, hu⟩
  case irq =>
    intro hh
    obtain ⟨u, hu, -⟩ := rtiImp_completes (cpuIrq s)
    refine ⟨u, hu, fun hi => ?_⟩
    obtain ⟨u', hu', hc⟩ := (cpuIrq_entered wf hh hi).rtiImp_returns byInterrupt
    rw [hu] at hu'
    cases hu'
    exact hc

end Sys2Proof.Machine
end

section
/-! PROOF. The flag instructions and NOP (R234 to R241, R264): one bit of `P` put through an instruction's frame, and an
operand read whose value is discarded. -/

namespace Sys2Proof.Machine

open Sys2Proof

/-- The mnemonics of the seven flag instructions. -/
def flagMnemonics : List Mnemonic := [.CLC, .SEC, .CLI, .SEI, .CLV, .CLD, .SED]

/-- The flag instructions are in mode IMP and have the table's count 2 (R234 to R240). -/
theorem Instr.operand_baseCycles_of_flag {i : Instr} (h : i.mnem ∈ flagMnemonics) :
    i.operand = .imp ∧ i.baseCycles = 2 := by
  have e : decide (i.mnem ∈ flagMnemonics → i.operand = .imp ∧ i.baseCycles = 2) = true := by cases i <;> rfl
  exact of_decide_eq_true e h

/-- An instruction that puts `b` in flag `f` completes in 2 cycles and keeps the other flags. -/
theorem putFlag_completes {i : Instr} {n : Mnemonic} (h : i.mnem = n) {f : Flag} {b : Bool} (s : State)
    (hn : n ∈ flagMnemonics) (hop : operate n = fun o base => runInstr base false o fun u _ => u.putFlag f b) :
    CompletesOnRegisters i s fun c =>
      c = { s.cpu with p := c.p, cyc := 2 } ∧ getFlag c.p f = b ∧ FlagsKept [f] s.cpu.p c.p := by
  obtain ⟨ho, hb⟩ := Instr.operand_baseCycles_of_flag (h ▸ hn)
  have e := exec_of_mnem h s
  rw [hop, ho, hb] at e
  have put : getFlag (setFlag s.cpu.p f b) f = b := by rw [getFlag_setFlag, if_pos rfl]
  exact completesOnRegisters_of e rfl ⟨rfl, put, flagsKept_setFlag _ _ _⟩

/-- NOP reads its operand, with the side effects of a port, and leaves every register but the count (R241, R264). -/
theorem nop_completes {i : Instr} (h : i.mnem = .NOP) (s : State) :
    CompletesReading i s fun _ x c => c = { s.cpu with cyc := i.baseCycles + bitNat x } :=
  operand_completes h (fun c _ => c) true (by decide) rfl (fun _ _ => rfl) fun _ _ => rfl

/-- Settles O20: the flag instructions are `putFlag_completes` with their own flag and bit, NOP is `nop_completes`. -/
theorem flagInstructionsAndNop : Obligations.FlagInstructionsAndNop := fun _ s =>
  ⟨fun h => putFlag_completes h s (by decide) rfl,
    fun h => putFlag_completes h s (by decide) rfl,
    fun h => putFlag_completes h s (by decide) rfl,
    fun h => putFlag_completes h s (by decide) rfl,
    fun h => putFlag_completes h s (by decide) rfl,
    fun h => putFlag_completes h s (by decide) rfl,
    fun h => putFlag_completes h s (by decide) rfl,
    fun h => nop_completes h s⟩

end Sys2Proof.Machine
end

section
/-! PROOF. The undocumented combinations (R251 to R254, R257 to R262, R265 to R267): a byte of memory modified and then
combined with `A`, each through one frame; and the immediate combinations, which share the count 2, with LAS beside them. -/

namespace Sys2Proof.Machine

open Sys2Proof

/-! ### Operands in memory -/

section
variable {r : Resolved} {ea : Addr} (h : r.loc = .mem ea)
include h

theorem readOperand_mem (u : State) : readOperand u r = busRead u ea := by simp only [readOperand, h]

theorem writeOperand_mem (u : State) (v : Byte) : writeOperand u r v = busWrite u ea v := by simp only [writeOperand, h]

/-- The shift of SLO, RLA, SRE and RRA: one read and one store at the same address, and C. -/
theorem shiftMemory_mem (f : Byte → Bool → Shifted) (u : State) :
    let m := (busRead u ea).1
    let v := f m (getFlag u.cpu.p .C)
    shiftMemory f u r =
      (v.val, { busWrite (busRead u ea).2 ea v.val with cpu := { u.cpu with p := setFlag u.cpu.p .C v.carry } }) := by
  simp only [shiftMemory, readOperand_mem h, writeOperand_mem h, State.putFlag, State.setP, State.flag, busWrite_cpu,
    busRead_cpu]

end

section
variable {i : Instr} {n : Mnemonic} (h : i.mnem = n) {s : State}
include h

/-! ### Memory modified, then combined with `A` -/

section
variable (hs : s.Inv) (hm : ∀ md ∈ n.modes, md ∉ [.IND, .IMP, .IMM])
include hs hm

/-- An instruction that reads `m` in memory, stores `f m` there and then changes the CPU by `put`. -/
theorem modify_completes {f : Byte → Byte} (put : Cpu → Byte → Cpu) {body : State → Resolved → State}
    {regs : Byte → Cpu → Prop} (hop : operate n = fun o base => runInstr base false o body)
    (hb : ∀ u r ea, r.loc = .mem ea → u.cpu.p = s.cpu.p →
      body u r = { busWrite (busRead u ea).2 ea (f (busRead u ea).1) with cpu := put u.cpu (busRead u ea).1 })
    (hr : ∀ m, regs m (put { s.cpu with cyc := i.baseCycles } m)) : CompletesModifying i s f regs := by
  have he := exec_of_mnem h s
  rw [hop] at he
  have ne (md : Mode) (hmem : md ∈ [.IND, .IMP, .IMM]) : i.mode ≠ md :=
    Instr.mode_ne_of_mnem h fun hmd => hm md hmd hmem
  refine completesModifying_of hs he (ne _ (by decide)) (ne _ (by decide)) (ne _ (by decide)) fun u r ea hl hu => ?_
  rw [hb u r ea hl (by rw [hu]), hu]
  exact ⟨rfl, hr _⟩

/-- An instruction that shifts its operand by `sh`, in integers `f`, and changes the CPU by `put` of the shifted byte. -/
theorem shiftMemory_completes {sh : Byte → Bool → Shifted} {f : Byte → Byte} (put : Cpu → Byte → Cpu)
    {regs : Byte → Cpu → Prop} (hf : ∀ m, (sh m (getFlag s.cpu.p .C)).val = f m)
    (hop : operate n = fun o base => runInstr base false o fun u r =>
      let q := shiftMemory sh u r
      { q.2 with cpu := put q.2.cpu q.1 })
    (hr : ∀ m, regs m (put
      { s.cpu with p := setFlag s.cpu.p .C (sh m (getFlag s.cpu.p .C)).carry, cyc := i.baseCycles } (f m))) :
    CompletesModifying i s f regs := by
  refine modify_completes h hs hm
    (fun c m => put { c with p := setFlag c.p .C (sh m (getFlag c.p .C)).carry } (f m)) hop (fun u r ea hl hp => ?_) hr
  simp only [shiftMemory_mem hl, hp, hf]

/-- SLO, RLA and SRE (R251 to R253): the shifted byte combined with `A` by `op`, Z and N from the result, C from the
shift. -/
theorem shiftLogic_completes {sh : Byte → Bool → Shifted} {f : Byte → Byte} (op : Byte → Byte → Byte) {c : Byte → Bool}
    (hf : ∀ m, (sh m (getFlag s.cpu.p .C)).val = f m) (hc : ∀ m, (sh m (getFlag s.cpu.p .C)).carry = c m)
    (hop : operate n = fun o base => runInstr base false o fun u r =>
      let q := shiftMemory sh u r
      loadA q.2 (op q.2.cpu.a q.1)) :
    CompletesModifying i s f fun m d =>
      d = { s.cpu with a := op s.cpu.a (f m), p := d.p, cyc := i.baseCycles } ∧ ZnOf (op s.cpu.a (f m)) d.p ∧
        getFlag d.p .C = c m ∧ FlagsKept [.C, .Z, .N] s.cpu.p d.p :=
  shiftMemory_completes h hs hm (fun d v => { d with a := op d.a v, p := znFlags d.p (op d.a v) }) hf hop
    fun m => hc m ▸ ⟨rfl, shiftFlags_spec _ _ _⟩

/-- An instruction that steps its operand by `g`, in integers `f`, and changes the CPU by `put` of the stepped byte; `upd` is
the operation's own spelling of that change, with the registers that the read left. -/
theorem memoryStepThen_completes {f g : Byte → Byte} (upd : Cpu → State → Byte → State) (put : Cpu → Byte → Cpu)
    {regs : Byte → Cpu → Prop} (hf : ∀ m, g m = f m)
    (hop : operate n = fun o base => runInstr base false o fun u r =>
      let q := readOperand u r
      upd q.2.cpu (writeOperand q.2 r (g q.1)) (g q.1))
    (hupd : ∀ u v, upd u.cpu u v = { u with cpu := put u.cpu v })
    (hr : ∀ m, regs m (put { s.cpu with cyc := i.baseCycles } (f m))) : CompletesModifying i s f regs := by
  obtain rfl : g = f := funext hf
  refine modify_completes h hs hm (fun c m => put c (g m)) hop (fun u r ea hl _ => ?_) hr
  have hc (v : Byte) : (busWrite (busRead u ea).2 ea v).cpu = u.cpu := by rw [busWrite_cpu, busRead_cpu]
  simp only [readOperand_mem hl, writeOperand_mem hl, busRead_cpu]
  rw [← hc, hupd]

end

end

/-! ### Immediate combinations -/

/-- The mnemonics of the immediate combinations. -/
def immediateCombinations : List Mnemonic := [.ANC, .ALR, .ARR, .AXS, .XAA, .LXA]

/-- The immediate combinations have the table's count 2. -/
theorem Instr.baseCycles_of_immediateCombination {i : Instr} (h : i.mnem ∈ immediateCombinations) : i.baseCycles = 2 := by
  have e : decide (i.mnem ∈ immediateCombinations → i.baseCycles = 2) = true := by cases i <;> rfl
  exact of_decide_eq_true e h

/-- An immediate combination, whose register write is `put`. -/
theorem immediate_completes {i : Instr} {n : Mnemonic} (h : i.mnem = n) (put : Cpu → Byte → Cpu) {s : State}
    {regs : Byte → Cpu → Prop} (hn : n ∈ immediateCombinations) (hm : .IND ∉ n.modes)
    (hop : operate n = fun o base => runInstr base false o fun u r =>
      let q := readOperand u r
      { q.2 with cpu := put q.2.cpu q.1 })
    (hput : ∀ k v, put { s.cpu with cyc := k } v = { put s.cpu v with cyc := k })
    (hr : ∀ v, regs v { put s.cpu v with cyc := 2 }) : CompletesReading i s fun v _ c => regs v c :=
  operand_completes h put false hm hop hput fun v _ => by
    rw [Instr.baseCycles_of_immediateCombination (h ▸ hn)]
    exact hr v

/-! ### The flags of RRA and AXS -/

/-- ADC after the rotate of RRA, whose carry bit is `m % 2` (R254). -/
theorem addedTo_addAfterShift (p a v m : Byte) (c : Bool) (hc : c = decide (m.toNat % 2 = 1)) :
    AddedTo a v (m.toNat % 2) (sumByte a v c) (addFlags (setFlag p .C c) a v) := by
  have hn : bitNat c = m.toNat % 2 := by
    subst hc
    rcases Nat.mod_two_eq_zero_or_one m.toNat with e | e <;> simp [bitNat, e]
  have hg : getFlag (setFlag p .C c) .C = c := by rw [getFlag_setFlag, if_pos rfl]
  have e := addedTo_add (setFlag p .C c) a v
  rwa [hg, hn] at e

theorem flagsKept_addAfterShift (p a v : Byte) (c : Bool) :
    FlagsKept [.C, .Z, .V, .N] p (addFlags (setFlag p .C c) a v) :=
  ((flagsKept_setFlag p .C c).mono (by decide)).trans (flagsKept_add _ a v)

/-! ### The two statements -/

/-- Settles O21: SLO, RLA and SRE are `shiftLogic_completes`, RRA is the rotate and then `AddWithCarry`; DCP and ISC step the
byte as integers modulo 256, compare it or add its complement. -/
theorem combinedModifyInstructions : Obligations.CombinedModifyInstructions := by
  intro i s hs _ _ _ _ _ _ _
  have dec (m : Byte) : m - 1#8 = BitVec.ofNat 8 (m.toNat + 255) := by bv_omega
  have inc (m : Byte) : m + 1#8 = BitVec.ofNat 8 (m.toNat + 1) := by bv_omega
  refine ⟨fun h => ?slo, fun h => ?rla, fun h => ?sre, fun h => ?rra, fun h => ?dcp, fun h => ?isc⟩
  case slo =>
    exact shiftLogic_completes h hs (by decide) (· ||| ·) (fun m => congrArg Shifted.val (asl_eq m _)) (fun _ => rfl) rfl
  case rla =>
    exact shiftLogic_completes h hs (by decide) (· &&& ·) (fun m => congrArg Shifted.val (rol_eq m _)) (fun _ => rfl) rfl
  case sre =>
    exact shiftLogic_completes h hs (by decide) (· ^^^ ·) (fun m => congrArg Shifted.val (lsr_eq m _)) (fun _ => rfl) rfl
  case rra =>
    refine shiftMemory_completes h hs (by decide)
      (fun c v => { c with a := sumByte c.a v (getFlag c.p .C), p := addFlags c.p c.a v })
      (fun m => congrArg Shifted.val (ror_eq m _)) rfl fun m => ⟨rfl, ?_, flagsKept_addAfterShift _ _ _ _⟩
    dsimp only
    rw [getFlag_setFlag, if_pos rfl]
    exact addedTo_addAfterShift _ _ _ m _ (congrArg Shifted.carry (ror_eq m _))
  case dcp =>
    exact memoryStepThen_completes h hs (by decide) (fun c u v => compareWith u c.a v)
      (fun c v => { c with p := compareFlags c.p c.a v }) dec rfl (fun _ _ => rfl)
      fun _ => ⟨rfl, compared_compare _ _ _, flagsKept_compare _ _ _⟩
  case isc =>
    exact memoryStepThen_completes h hs (by decide) (fun _ u v => addWithCarry u (v ^^^ 0xFF#8))
      (fun c v => { c with
        a := sumByte c.a (v ^^^ 0xFF#8) (getFlag c.p .C), p := addFlags c.p c.a (v ^^^ 0xFF#8) }) inc rfl (fun _ _ => rfl)
      fun _ => ⟨rfl, subtractedFrom_add _ _ _, flagsKept_add _ _ _⟩

/-- Settles O22: LAS reads its operand in an indexed form, the others are `immediate_completes`, each with its own register
write; the magic bytes stay as they are. -/
theorem registerCombinations : Obligations.RegisterCombinations := by
  intro i s _
  refine ⟨fun h => ?las, fun h => ?anc, fun h => ?alr, fun h => ?arr, fun h => ?axs, fun h => ?xaa, fun h => ?lxa⟩
  case las =>
    exact operand_completes h
      (fun c v => { c with a := v &&& c.sp, x := v &&& c.sp, sp := v &&& c.sp, p := znFlags c.p (v &&& c.sp) })
      true (by decide) rfl (fun _ _ => rfl) fun _ _ => ⟨rfl, znOf_flagsKept_zn _ _⟩
  case anc =>
    exact immediate_completes h (fun c v => { c with a := c.a &&& v, p := ancFlags c.p (c.a &&& v) })
      (by decide) (by decide) rfl (fun _ _ => rfl) fun _ => ⟨rfl, znOf_anc _ _, anc_carry _ _, flagsKept_anc _ _⟩
  case alr =>
    refine immediate_completes h
      (fun c v => { c with
        a := (lsr (c.a &&& v) (getFlag c.p .C)).val, p := shiftFlags c.p (lsr (c.a &&& v) (getFlag c.p .C)) })
      (by decide) (by decide) rfl (fun _ _ => rfl) fun _ => ⟨?_, znOf_shift _ _, shift_carry _ _, flagsKept_shift _ _⟩
    rw [lsr_eq]
  case arr =>
    refine immediate_completes h
      (fun c v => { c with
        a := (ror (c.a &&& v) (getFlag c.p .C)).val, p := arrFlags c.p (ror (c.a &&& v) (getFlag c.p .C)).val })
      (by decide) (by decide) rfl (fun _ _ => rfl) fun _ =>
        ⟨?_, znOf_arr _ _, arr_carry _ _, arr_overflow _ _, flagsKept_arr _ _⟩
    rw [ror_eq]
  case axs =>
    refine immediate_completes h (fun c v => { c with x := (c.a &&& c.x) - v, p := axsFlags c.p (c.a &&& c.x) v })
      (by decide) (by decide) rfl (fun _ _ => rfl) fun v => ⟨rfl, ?_, znOf_axs _ _ _, ?_, flagsKept_axs _ _ _⟩
    · rw [sub_eq_ofNat, BitVec.toNat_ofNat, Nat.mod_mod]
    · rw [axs_carry, decide_eq_true_iff]
  case xaa =>
    exact immediate_completes h
      (fun c v => { c with
        a := xaaResult Config.aneMagic c.a c.x v, p := znFlags c.p (xaaResult Config.aneMagic c.a c.x v) })
      (by decide) (by decide) rfl (fun _ _ => rfl) fun _ => ⟨rfl, znOf_flagsKept_zn _ _⟩
  case lxa =>
    exact immediate_completes h
      (fun c v => { c with
        a := lxaResult Config.lxaMagic c.a v, x := lxaResult Config.lxaMagic c.a v
        p := znFlags c.p (lxaResult Config.lxaMagic c.a v) })
      (by decide) (by decide) rfl (fun _ _ => rfl) fun _ => ⟨rfl, znOf_flagsKept_zn _ _⟩

end Sys2Proof.Machine
end

section
/-! PROOF. Interrupts (R214, R385 to R387, R471 to R476, R480, R481): BRK and the two entries, RTI, the polls at the end of a
tick; and the reset state's invariant. -/

namespace Sys2Proof.Machine

open Sys2Proof

/-- Settles O18: `brkImp_completes` and `rtiImp_completes`, the status bytes written out. -/
theorem breakAndReturn : Obligations.BreakAndReturn :=
  ⟨fun _ hs => brkImp_completes hs.ram.1, rtiImp_completes⟩

theorem cpuIrq_of_masked {s : State} (h : getFlag s.cpu.p .I = true) : cpuIrq s = s := by
  unfold cpuIrq
  split_ifs with hh hi
  · rfl
  · rfl
  · exact absurd h hi

/-- Settles O51: the two entries as a whole (`cpuNmi_entered`, `cpuIrq_entered`) and what drops them. -/
theorem interruptEntries : Obligations.InterruptEntries := fun _ hs =>
  ⟨cpuNmi_entered hs.ram.1, cpuIrq_entered hs.ram.1, cpuNmi_of_halted, fun h => h.elim cpuIrq_of_halted cpuIrq_of_masked⟩

/-! ### The polls (R385 to R387) -/

/-- An interrupt entry writes CPU registers and pushes: nothing outside the CPU and console RAM changes. -/
theorem interruptEntry_onlyRam (s : State) {v : Addr} (h : 0x8000 ≤ v.toNat) (h' : v.toNat < 0xFFFF) :
    interruptEntry s v = { s with cpu := (interruptEntry s v).cpu, ram := (interruptEntry s v).ram } := by
  rw [interruptEntry, takeException_eq _ _ _ h h', push8_eq, push16_eq]
  rfl

theorem cpuNmi_onlyRam (s : State) : cpuNmi s = { s with cpu := (cpuNmi s).cpu, ram := (cpuNmi s).ram } := by
  unfold cpuNmi
  split
  · rfl
  · exact interruptEntry_onlyRam s (by decide) (by decide)

theorem cpuIrq_onlyRam (s : State) : cpuIrq s = { s with cpu := (cpuIrq s).cpu, ram := (cpuIrq s).ram } := by
  unfold cpuIrq
  split_ifs
  · rfl
  · rfl
  · exact interruptEntry_onlyRam s (by decide) (by decide)

/-- After the NMI entry the CPU drops an IRQ: it is halted, or the entry has set I (R474). -/
theorem cpuIrq_after_cpuNmi {s u : State} (h : u.cpu = (cpuNmi s).cpu) : cpuIrq u = u := by
  by_cases hh : s.cpu.halted = true
  · rw [cpuNmi_of_halted hh] at h
    exact cpuIrq_of_halted (h ▸ hh)
  · refine cpuIrq_of_masked ?_
    rw [h, cpuNmi, if_neg hh, interruptEntry, takeException_eq _ _ _ (by decide) (by decide)]
    simp [State.addCyc]

@[simp] theorem irqPending_irqAcknowledge (m : Mapper) : m.irqAcknowledge.irqPending = false := by cases m <;> rfl

theorem pollNmi_of_request {s : State} (h : s.ppu.nmiReq = true) :
    pollNmi s = cpuNmi (s.onPpu fun q => { q with nmiReq := false }) := if_pos h

theorem pollNmi_of_none {s : State} (h : s.ppu.nmiReq = false) : pollNmi s = s := by simp [pollNmi, h]

theorem pollIrq_of_request {s : State} (h : s.mapper.irqPending = true) :
    pollIrq s = cpuIrq { s with mapper := s.mapper.irqAcknowledge } := if_pos h

theorem pollIrq_of_none {s : State} (h : s.mapper.irqPending = false) : pollIrq s = s := by simp [pollIrq, h]

/-- With no request pending the end of a tick only counts it. -/
theorem endTick_of_none {s : State} (hn : s.ppu.nmiReq = false) (hi : s.mapper.irqPending = false) :
    endTick s = { s with tick := s.tick + 1 } := by
  rw [endTick, pollNmi_of_none hn, pollIrq_of_none hi]

/-- Settles O52: each poll with its request and without; with both, the NMI entry leaves a CPU that drops the IRQ. -/
theorem interruptPolls : Obligations.InterruptPolls := by
  intro s cleared acked
  have nmi := cpuNmi_onlyRam cleared
  have pending : (cpuNmi cleared).mapper.irqPending = s.mapper.irqPending := by rw [nmi]; rfl
  refine ⟨endTick_of_none, fun hn hi => ?nmi, fun hn hi => ?irq, fun hn hi => ?both⟩
  case nmi =>
    have e : endTick s = { cpuNmi cleared with tick := s.tick + 1 } := by
      rw [endTick, pollNmi_of_request hn, pollIrq_of_none (pending.trans hi), nmi]
      rfl
    refine ⟨e, ?_⟩
    rw [e, nmi]
    rfl
  case irq =>
    have irq := cpuIrq_onlyRam (acked s)
    have e : endTick s = { cpuIrq (acked s) with tick := s.tick + 1 } := by
      rw [endTick, pollNmi_of_none hn, pollIrq_of_request hi, irq]
    refine ⟨e, ?_⟩
    rw [e, irq]
    exact irqPending_irqAcknowledge _
  case both =>
    have dropped : cpuIrq (acked (cpuNmi cleared)) = acked (cpuNmi cleared) := cpuIrq_after_cpuNmi (s := cleared) rfl
    have polled : pollIrq (pollNmi s) = acked (cpuNmi cleared) := by
      rw [pollNmi_of_request hn, pollIrq_of_request (pending.trans hi)]
      exact dropped
    have e : endTick s = { acked (cpuNmi cleared) with tick := s.tick + 1 } := by
      rw [endTick, polled, nmi]
      rfl
    refine ⟨e, ?_, ?_⟩ <;> rw [e]
    · show (cpuNmi cleared).ppu.nmiReq = false
      rw [nmi]
      rfl
    · exact irqPending_irqAcknowledge _

/-- Settles O59: the reset state's memories list nothing, and its registers are given. -/
theorem resetMeetsInvariant : Obligations.ResetMeetsInvariant where
  cpu := cpuReset_ok 0#16
  ppu := ⟨by decide, by decide, rfl, by decide, Mem.ok_nil _, Mem.ok_nil _, Mem.ok_nil _, Mem.ok_nil _, Mem.ok_nil _⟩
  dma := fun _ => rfl
  mapper := trivial
  ram := Mem.ok_nil _
  mapperRam := Mem.ok_nil _
  cart := ⟨by decide, Mem.ok_nil _, Mem.ok_nil _⟩

end Sys2Proof.Machine
end

section
/-! PROOF. The fields of the loopy registers (R40), the scroll steps that move them (R351 to R354), and the PPU's ports (R301 to
R311). -/

namespace Sys2Proof.Machine

open Sys2Proof

/-! ### One field (R40) -/

section
variable {w n m : Nat} (v : BitVec w) (x : BitVec n) {pos p : Nat}

/-- The bits of a field are those put there, every other bit stays. -/
theorem getLsbD_putField {i : Nat} (hi : i < w) :
    (putField v pos x).getLsbD i = if pos ≤ i ∧ i < pos + n then x.getLsbD (i - pos) else v.getLsbD i := by
  by_cases hp : pos ≤ i
  · by_cases hn : i < pos + n
    · have h1 : ¬ i < pos := by omega
      have h2 : i - pos < n := by omega
      simp [putField, hi, hp, hn, h1, h2]
    · have h1 : ¬ i < pos := by omega
      have h2 : ¬ i - pos < n := by omega
      simp [putField, hi, hn, h1, h2, BitVec.getLsbD_of_ge x (i - pos) (by omega)]
  · simp [putField, hi, hp, show i < pos by omega]

theorem extract_putField_same (h : pos + n ≤ w) : (putField v pos x).extractLsb' pos n = x := by
  refine BitVec.eq_of_getLsbD_eq fun i hi => ?_
  rw [BitVec.getLsbD_extractLsb', getLsbD_putField v x (by omega), if_pos (by omega)]
  simp [hi]

theorem extract_putField_other (h : p + m ≤ w) (hd : p + m ≤ pos ∨ pos + n ≤ p) :
    (putField v pos x).extractLsb' p m = v.extractLsb' p m := by
  refine BitVec.eq_of_getLsbD_eq fun i hi => ?_
  rw [BitVec.getLsbD_extractLsb', BitVec.getLsbD_extractLsb', getLsbD_putField v x (by omega), if_neg (by omega)]

end

section
variable (v : Loopy)

@[simp] theorem coarseX_setCoarseX (x : BitVec 5) : coarseX (setCoarseX v x) = x := extract_putField_same v x (by decide)
@[simp] theorem coarseX_setCoarseY (y : BitVec 5) : coarseX (setCoarseY v y) = coarseX v :=
  extract_putField_other v y (by decide) (by decide)
@[simp] theorem coarseX_setNametableX (b : BitVec 1) : coarseX (setNametableX v b) = coarseX v :=
  extract_putField_other v b (by decide) (by decide)
@[simp] theorem coarseX_setNametableY (b : BitVec 1) : coarseX (setNametableY v b) = coarseX v :=
  extract_putField_other v b (by decide) (by decide)
@[simp] theorem coarseX_setFineY (y : BitVec 3) : coarseX (setFineY v y) = coarseX v :=
  extract_putField_other v y (by decide) (by decide)

@[simp] theorem coarseY_setCoarseX (x : BitVec 5) : coarseY (setCoarseX v x) = coarseY v :=
  extract_putField_other v x (by decide) (by decide)
@[simp] theorem coarseY_setCoarseY (y : BitVec 5) : coarseY (setCoarseY v y) = y := extract_putField_same v y (by decide)
@[simp] theorem coarseY_setNametableX (b : BitVec 1) : coarseY (setNametableX v b) = coarseY v :=
  extract_putField_other v b (by decide) (by decide)
@[simp] theorem coarseY_setNametableY (b : BitVec 1) : coarseY (setNametableY v b) = coarseY v :=
  extract_putField_other v b (by decide) (by decide)
@[simp] theorem coarseY_setFineY (y : BitVec 3) : coarseY (setFineY v y) = coarseY v :=
  extract_putField_other v y (by decide) (by decide)

@[simp] theorem nametableX_setCoarseX (x : BitVec 5) : nametableX (setCoarseX v x) = nametableX v :=
  extract_putField_other v x (by decide) (by decide)
@[simp] theorem nametableX_setCoarseY (y : BitVec 5) : nametableX (setCoarseY v y) = nametableX v :=
  extract_putField_other v y (by decide) (by decide)
@[simp] theorem nametableX_setNametableX (b : BitVec 1) : nametableX (setNametableX v b) = b :=
  extract_putField_same v b (by decide)
@[simp] theorem nametableX_setNametableY (b : BitVec 1) : nametableX (setNametableY v b) = nametableX v :=
  extract_putField_other v b (by decide) (by decide)
@[simp] theorem nametableX_setFineY (y : BitVec 3) : nametableX (setFineY v y) = nametableX v :=
  extract_putField_other v y (by decide) (by decide)

@[simp] theorem nametableY_setCoarseX (x : BitVec 5) : nametableY (setCoarseX v x) = nametableY v :=
  extract_putField_other v x (by decide) (by decide)
@[simp] theorem nametableY_setCoarseY (y : BitVec 5) : nametableY (setCoarseY v y) = nametableY v :=
  extract_putField_other v y (by decide) (by decide)
@[simp] theorem nametableY_setNametableX (b : BitVec 1) : nametableY (setNametableX v b) = nametableY v :=
  extract_putField_other v b (by decide) (by decide)
@[simp] theorem nametableY_setNametableY (b : BitVec 1) : nametableY (setNametableY v b) = b :=
  extract_putField_same v b (by decide)
@[simp] theorem nametableY_setFineY (y : BitVec 3) : nametableY (setFineY v y) = nametableY v :=
  extract_putField_other v y (by decide) (by decide)

@[simp] theorem fineY_setCoarseX (x : BitVec 5) : fineY (setCoarseX v x) = fineY v :=
  extract_putField_other v x (by decide) (by decide)
@[simp] theorem fineY_setCoarseY (y : BitVec 5) : fineY (setCoarseY v y) = fineY v :=
  extract_putField_other v y (by decide) (by decide)
@[simp] theorem fineY_setNametableX (b : BitVec 1) : fineY (setNametableX v b) = fineY v :=
  extract_putField_other v b (by decide) (by decide)
@[simp] theorem fineY_setNametableY (b : BitVec 1) : fineY (setNametableY v b) = fineY v :=
  extract_putField_other v b (by decide) (by decide)
@[simp] theorem fineY_setFineY (y : BitVec 3) : fineY (setFineY v y) = y := extract_putField_same v y (by decide)

end

/-! ### The scroll steps (R351 to R354) -/

/-- Settles O43: each step puts some fields, and a field put is read back alone. -/
theorem scrollSteps : Obligations.ScrollSteps := by
  intro v t
  refine ⟨?coarseX, ?y, by simp [copyX], by simp [copyY]⟩
  case coarseX =>
    unfold nextCoarseX
    split_ifs with h
    · simp [h]
    · simp [BitVec.toNat_add]
  case y =>
    unfold nextY
    by_cases hf : fineY v = 7#3
    · by_cases h29 : coarseY v = 29#5
      · simp [hf, h29]
      · by_cases h31 : coarseY v = 31#5 <;> simp [hf, h29, h31]
    · simp [hf, BitVec.toNat_add]

/-! ### The ports -/

/-- A multiple of 256 over a byte is their sum. -/
theorem or_toNat_of_page {w : Nat} {x y : BitVec w} {page : Nat} (hx : x.toNat = page * 256) (hy : y.toNat < 256) :
    (x ||| y).toNat = page * 256 + y.toNat := by
  rw [BitVec.toNat_or, hx, Nat.mul_comm]
  exact (Nat.two_pow_add_eq_or_of_lt (i := 8) hy page).symm

theorem low3_toNat (d : Byte) : (d.extractLsb' 0 3).toNat = d.toNat % 8 := by
  rw [BitVec.extractLsb'_toNat, Nat.shiftRight_zero]

theorem high5_toNat (d : Byte) : (d.extractLsb' 3 5).toNat = d.toNat / 8 := by
  rw [BitVec.extractLsb'_toNat, Nat.shiftRight_eq_div_pow]
  omega

/-- Port 6, first half (R307): the high six bits, bit 14 clear. -/
theorem addressHigh_toNat (t : Loopy) (d : Byte) :
    (((d &&& 0x3F#8).setWidth 15 <<< 8) ||| (t &&& 0x00FF#15)).toNat = d.toNat % 64 * 256 + t.toNat % 256 := by
  have low : (t &&& 0x00FF#15).toNat = t.toNat % 256 := Nat.and_two_pow_sub_one_eq_mod t.toNat 8
  have six : (d &&& 0x3F#8).toNat = d.toNat % 64 := Nat.and_two_pow_sub_one_eq_mod d.toNat 6
  have high : ((d &&& 0x3F#8).setWidth 15 <<< 8).toNat = d.toNat % 64 * 256 := by
    rw [BitVec.toNat_shiftLeft, BitVec.toNat_setWidth, six, Nat.shiftLeft_eq]
    omega
  rw [or_toNat_of_page high (by omega), low]

/-- Port 6, second half (R307): the low byte. -/
theorem addressLow_toNat (t : Loopy) (d : Byte) :
    ((t &&& 0x7F00#15) ||| d.setWidth 15).toNat = t.toNat / 256 * 256 + d.toNat := by
  have hd := d.isLt
  have low : (d.setWidth 15).toNat = d.toNat := by
    rw [BitVec.toNat_setWidth]
    omega
  have high : (t &&& 0x7F00#15).toNat = t.toNat / 256 * 256 := by
    have e : t &&& 0x7F00#15 = (t >>> 8) <<< 8 := by
      ext i hi
      interval_cases i <;> simp
    rw [e, BitVec.toNat_shiftLeft, BitVec.toNat_ushiftRight, Nat.shiftLeft_eq, Nat.shiftRight_eq_div_pow]
    omega
  rw [or_toNat_of_page high (by omega), low]

section
variable {s : State} (d : Byte)

theorem scrollWrite_first (h : s.ppu.w = false) : ppuPortWrite s 5 d = { s with ppu := { s.ppu with
    fx := d.extractLsb' 0 3, t := setCoarseX s.ppu.t (d.extractLsb' 3 5), w := true } } := by
  simp [ppuPortWrite, scrollWrite, h]

theorem scrollWrite_second (h : s.ppu.w = true) : ppuPortWrite s 5 d = { s with ppu := { s.ppu with
    t := setCoarseY (setFineY s.ppu.t (d.extractLsb' 0 3)) (d.extractLsb' 3 5), w := false } } := if_pos h

theorem addressWrite_first (h : s.ppu.w = false) : ppuPortWrite s 6 d = { s with ppu := { s.ppu with
    t := ((d &&& 0x3F#8).setWidth 15 <<< 8) ||| (s.ppu.t &&& 0x00FF#15), w := true } } := by
  simp [ppuPortWrite, addressWrite, h]

theorem addressWrite_second (h : s.ppu.w = true) : ppuPortWrite s 6 d = { s with ppu := { s.ppu with
    t := (s.ppu.t &&& 0x7F00#15) ||| d.setWidth 15, v := (s.ppu.t &&& 0x7F00#15) ||| d.setWidth 15, w := false } } :=
  if_pos h

end

/-- Settles O34: the shared toggle chooses the half, and each half puts its own fields. -/
theorem scrollAndAddressPorts : Obligations.ScrollAndAddressPorts := by
  intro s d
  cases hw : s.ppu.w with
  | false =>
    rw [scrollWrite_first d hw, addressWrite_first d hw]
    exact ⟨⟨rfl, nametableX_setCoarseX _ _, nametableY_setCoarseX _ _, fun _ => ⟨low3_toNat d,
      (congrArg BitVec.toNat (coarseX_setCoarseX _ _)).trans (high5_toNat d), coarseY_setCoarseX _ _,
      fineY_setCoarseX _ _⟩, nofun⟩, rfl, fun _ => ⟨addressHigh_toNat _ d, rfl⟩, nofun⟩
  | true =>
    rw [scrollWrite_second d hw, addressWrite_second d hw]
    exact ⟨⟨rfl, by simp, by simp, nofun, fun _ => ⟨rfl, by simp,
      (congrArg BitVec.toNat (coarseY_setCoarseY _ _)).trans (high5_toNat d), by simp⟩⟩,
      rfl, nofun, fun _ => ⟨addressLow_toNat _ d, rfl⟩⟩

/-- The status byte as a sum (R303): three flags over the low five bits of the read buffer. -/
theorem statusByte_toNat (q : Ppu) : q.statusByte.toNat = 128 * bitNat q.vblank + 64 * bitNat q.spriteZeroHit +
    32 * bitNat q.spriteOverflow + q.rdbuf.toNat % 32 := by
  have low : (q.rdbuf &&& 0x1F#8).toNat = q.rdbuf.toNat % 32 := Nat.and_two_pow_sub_one_eq_mod q.rdbuf.toNat 5
  have high : q.statBits.toNat =
      2 ^ 5 * (4 * bitNat q.vblank + 2 * bitNat q.spriteZeroHit + bitNat q.spriteOverflow) := by
    unfold Ppu.statBits
    cases q.vblank <;> cases q.spriteZeroHit <;> cases q.spriteOverflow <;> rfl
  have h := Nat.two_pow_add_eq_or_of_lt (i := 5) (b := q.rdbuf.toNat % 32) (by omega)
    (4 * bitNat q.vblank + 2 * bitNat q.spriteZeroHit + bitNat q.spriteOverflow)
  rw [Ppu.statusByte, BitVec.toNat_or, low, high, ← h]
  omega

/-- Settles O33: port by port; Control's two nametable bits are two fields put in `t`. -/
theorem registerPorts : Obligations.RegisterPorts := by
  intro s d
  have next : s.ppu.oamaddr + 1#8 = BitVec.ofNat 8 (s.ppu.oamaddr.toNat + 1) := by bv_omega
  refine ⟨⟨statusByte_toNat s.ppu, rfl, rfl⟩, ?control, rfl, rfl, ?oam, by simp [ppuPortRead]⟩
  case control =>
    have bit (k : Nat) (hk : k < 15) : (setNametableY (setNametableX s.ppu.t (d.extractLsb' 0 1)) (d.extractLsb' 1 1)).getLsbD k
        = if k = 11 then d.getLsbD 1 else if k = 10 then d.getLsbD 0 else s.ppu.t.getLsbD k := by
      rw [setNametableY, setNametableX, getLsbD_putField _ _ hk, getLsbD_putField _ _ hk]
      by_cases h11 : k = 11
      · simp [h11]
      · by_cases h10 : k = 10
        · simp [h10]
        · rw [if_neg (by omega), if_neg (by omega), if_neg h11, if_neg h10]
    refine ⟨rfl, bit 10 (by decide), bit 11 (by decide), fun k h10 h11 => ?_⟩
    by_cases hk : k < 15
    · exact (bit k hk).trans (by rw [if_neg h11, if_neg h10])
    · rw [BitVec.getLsbD_of_ge _ k (by omega), BitVec.getLsbD_of_ge _ k (by omega)]
  case oam =>
    rw [← next]
    exact ⟨rfl, rfl⟩

theorem dataAddr_eq (q : Ppu) : q.dataAddr = BitVec.ofNat 14 q.v.toNat := (BitVec.ofNat_toNat 14 q.v).symm

/-- The increment modulo 2^15 (R308, R309). -/
theorem add_increment (q : Ppu) :
    q.v + q.increment = BitVec.ofNat 15 (q.v.toNat + if q.ctrl.getLsbD 2 then 32 else 1) := by
  unfold Ppu.increment
  split <;> bv_omega

/-- Settles O35: the read and the write of port 7 with address and increment in integer arithmetic. -/
theorem dataPort : Obligations.DataPort := by
  intro s d
  dsimp only
  rw [← dataAddr_eq, ← add_increment]
  exact ⟨rfl, rfl, rfl⟩

end Sys2Proof.Machine
end

section
/-! PROOF. The PPU's address space (R320 to R325): pattern memory, nametables and palette, range by range. -/

namespace Sys2Proof.Machine

open Sys2Proof

/-! ### Where the cartridge declines (R322, R325) -/

theorem ppuMap_above (m : Mapper) (c : Cart) {a : PpuAddr} (h : 0x2000 ≤ a.toNat) : m.ppuMap c a = none := by
  simp [Mapper.ppuMap, show ¬ a.toNat < 0x2000 by omega]

theorem ppuMap_noChr (m : Mapper) {c : Cart} (h : c.chrBanks = 0) (a : PpuAddr) : m.ppuMap c a = none := by
  simp [Mapper.ppuMap, h]

theorem ppuMap_chr (m : Mapper) {c : Cart} (h : c.chrBanks ≠ 0) {a : PpuAddr} (ha : a.toNat < 0x2000) :
    m.ppuMap c a = some (m.chrOffset a % c.chrSize) := by
  simp [Mapper.ppuMap, h, ha]

theorem ppuRead_claimed {s : State} {a : PpuAddr} {o : Nat} (h : s.mapper.ppuMap s.cart a = some o) :
    (ppuRead s a).1 = s.cart.chr.read o := by
  simp only [ppuRead, ppuPeek, h]

theorem ppuWrite_claimed {s : State} {a : PpuAddr} {o : Nat} (h : s.mapper.ppuMap s.cart a = some o) (d : Byte) :
    ppuWrite s a d = s := by
  simp [ppuWrite, h]

/-- A read that the Mapper declines changes nothing (log 10). -/
theorem ppuTouch_of_declined {s : State} {a : PpuAddr} (h : s.mapper.ppuMap s.cart a = none) : ppuTouch s a = s := by
  have e : s.mapper.afterPpuRead s.cart a = s.mapper := by
    unfold Mapper.afterPpuRead
    split
    · rw [h]
      rfl
    · rfl
  rw [ppuTouch, e]

/-- Only id 9 has latches to move (R455). -/
theorem ppuTouch_of_ne_latch {s : State} (h : ∀ r, s.mapper ≠ .latch r) (a : PpuAddr) : ppuTouch s a = s := by
  have e : s.mapper.afterPpuRead s.cart a = s.mapper := by
    unfold Mapper.afterPpuRead
    split
    · exact absurd ‹_› (h _)
    · rfl
  rw [ppuTouch, e]

section
variable {s : State} {a : PpuAddr} (hd : s.mapper.ppuMap s.cart a = none)
include hd

theorem ppuRead_pattern (h : a.toNat ≤ 0x1FFF) : ppuRead s a = (s.ppu.chrRam.read a.toNat, s) := by
  rw [ppuRead, ppuTouch_of_declined hd]
  simp only [ppuPeek, hd, h, if_true]

theorem ppuWrite_pattern (h : a.toNat ≤ 0x1FFF) (d : Byte) :
    ppuWrite s a d = { s with ppu := { s.ppu with chrRam := s.ppu.chrRam.write a.toNat d } } := by
  simp only [ppuWrite, hd, h, Option.isSome_none, Bool.false_eq_true, if_true, if_false]

end

section
variable (s : State) {a : PpuAddr} (hl : 0x2000 ≤ a.toNat) (hh : a.toNat ≤ 0x3EFF)
include hl hh

theorem ppuRead_nametable : ppuRead s a = (s.ppu.nt.read (ntIndex (s.mapper.mirroringMode s.cart) a), s) := by
  have hd := ppuMap_above s.mapper s.cart hl
  rw [ppuRead, ppuTouch_of_declined hd]
  simp only [ppuPeek, hd, show ¬ a.toNat ≤ 0x1FFF by omega, hh, if_true, if_false]

theorem ppuWrite_nametable (d : Byte) : ppuWrite s a d =
    { s with ppu := { s.ppu with nt := s.ppu.nt.write (ntIndex (s.mapper.mirroringMode s.cart) a) d } } := by
  simp only [ppuWrite, ppuMap_above s.mapper s.cart hl, show ¬ a.toNat ≤ 0x1FFF by omega, hh, Option.isSome_none,
    Bool.false_eq_true, if_true, if_false]

end

section
variable (s : State) {a : PpuAddr} (h : 0x3F00 ≤ a.toNat)
include h

theorem ppuRead_palette : ppuRead s a = (s.ppu.pal.read (palIndex a) &&& s.ppu.palMask, s) := by
  have hd := ppuMap_above s.mapper s.cart (a := a) (by omega)
  rw [ppuRead, ppuTouch_of_declined hd]
  simp only [ppuPeek, hd, show ¬ a.toNat ≤ 0x1FFF by omega, show ¬ a.toNat ≤ 0x3EFF by omega, if_false]

theorem ppuWrite_palette (d : Byte) :
    ppuWrite s a d = { s with ppu := { s.ppu with pal := s.ppu.pal.write (palIndex a) d } } := by
  simp only [ppuWrite, ppuMap_above s.mapper s.cart (a := a) (by omega), show ¬ a.toNat ≤ 0x1FFF by omega,
    show ¬ a.toNat ≤ 0x3EFF by omega, Option.isSome_none, Bool.false_eq_true, if_false]

end

/-! ### Nametables (R323) -/

/-- 0x3000 to 0x3EFF is an image: the index looks at the address modulo 0x1000. -/
theorem ntIndex_image (m : Mirroring) {a : PpuAddr} (h : 0x3000 ≤ a.toNat) : ntIndex m (a - 0x1000#14) = ntIndex m a := by
  have e : (a - 0x1000#14).toNat = a.toNat - 0x1000 := by bv_omega
  have h1 : (a.toNat - 0x1000) % 0x1000 = a.toNat % 0x1000 := by omega
  have h2 : (a.toNat - 0x1000) % 0x400 = a.toNat % 0x400 := by omega
  simp only [ntIndex, e, h1, h2]

/-- Settles O36: the index by mirroring mode, its image, and the variants that take the header's mode. -/
theorem nametableMirroring : Obligations.NametableMirroring := by
  refine ⟨?_, fun _ _ _ _ => ⟨rfl, rfl, rfl, rfl⟩⟩
  intro s a d hl hh screen bank cell
  have index : ntIndex (s.mapper.mirroringMode s.cart) a = cell := by
    have hs : a.toNat % 0x1000 / 0x400 = screen := by omega
    have lt : screen < 4 := Nat.mod_lt _ (by decide)
    simp only [ntIndex, cell, bank, hs]
    congr 2
    cases s.mapper.mirroringMode s.cart <;> simp only <;> split_ifs <;> omega
  rw [← index]
  refine ⟨ppuRead_nametable s hl hh, ppuWrite_nametable s hl hh d, fun h3 => ?_⟩
  have e : (a - 0x1000#14).toNat = a.toNat - 0x1000 := by bv_omega
  have hl' : 0x2000 ≤ (a - 0x1000#14).toNat := by omega
  have hh' : (a - 0x1000#14).toNat ≤ 0x3EFF := by omega
  rw [ppuRead_nametable s hl hh, ppuRead_nametable s hl' hh', ppuWrite_nametable s hl hh, ppuWrite_nametable s hl' hh',
    ntIndex_image _ h3]
  exact ⟨rfl, rfl⟩

/-! ### Palette (R324) -/

theorem palIndex_eq (a : PpuAddr) : palIndex a =
    if a.toNat % 32 = 0x10 then 0x00 else if a.toNat % 32 = 0x14 then 0x04
    else if a.toNat % 32 = 0x18 then 0x08 else if a.toNat % 32 = 0x1C then 0x0C else a.toNat % 32 := by
  unfold palIndex
  dsimp only
  split_ifs <;> omega

/-- Settles O37: a palette write is a write of its cell, and a read of the same cell gives it back masked. -/
theorem paletteAliases : Obligations.PaletteAliases := by
  refine ⟨palIndex_eq, fun s a b d hs ha hb => ⟨ppuWrite_palette s ha d, ?_⟩⟩
  rw [ppuWrite_palette s ha d, ppuRead_palette _ hb, ppuRead_palette s hb]
  show (s.ppu.pal.write (palIndex a) d).read (palIndex b) &&& s.ppu.palMask = _
  rw [Mem.read_write hs.ppu.pal.1]
  by_cases h : palIndex b = palIndex a
  · rw [if_pos h, if_pos h]
    rfl
  · rw [if_neg h, if_neg h]

/-! ### Pattern memory (R320 to R322, R325) -/

/-- Settles O38: without a CHR bank the Mapper declines and the PPU's RAM answers, with one it claims an offset inside its
ROM. -/
theorem patternMemory : Obligations.PatternMemory := by
  intro s a d hs ha
  refine ⟨fun h0 => ?ram, fun h0 => ?rom⟩
  case ram =>
    have declined (e : PpuAddr) : s.mapper.ppuMap s.cart e = none := ppuMap_noChr _ h0 e
    refine ⟨ppuRead_pattern (declined a) ha, ppuWrite_pattern (declined a) ha d, fun b hb => ?_⟩
    have written := ppuRead_pattern (s := { s with ppu := { s.ppu with chrRam := s.ppu.chrRam.write a.toNat d } })
      (declined b) hb
    rw [ppuRead_pattern (declined b) hb, ppuWrite_pattern (declined a) ha d, written]
    dsimp only
    rw [Mem.read_write hs.ppu.chrRam.1]
    simp only [BitVec.toNat_inj]
  case rom =>
    have claimed := ppuMap_chr s.mapper h0 (a := a) (by omega)
    have inside : s.mapper.chrOffset a % s.cart.chrSize < 8192 * s.cart.chrBanks :=
      Nat.mod_lt _ (show 0 < 8192 * s.cart.chrBanks by omega)
    exact ⟨ppuWrite_claimed claimed d, _, inside, ppuRead_claimed claimed, rfl⟩

end Sys2Proof.Machine
end

section
/-! PROOF. The Bus beside memory: the side-effect-free read (R88), the cartridge's answers (R421) and the controller ports (R400,
R401). -/

namespace Sys2Proof.Machine

open Sys2Proof

/-! ### The side-effect-free read (R88) -/

theorem ppuPortPeek_eq_read (s : State) (n : Nat) : ppuPortPeek s n = (ppuPortRead s n).1 := by
  unfold ppuPortPeek ppuPortRead
  split <;> rfl

theorem busPeek_eq_busRead (s : State) (a : Addr) : busPeek s a = (busRead s a).1 := by
  unfold busPeek busRead
  split
  · rfl
  · by_cases h16 : a.toNat = 0x4016
    · simp [h16, ctlRead]
    · by_cases h17 : a.toNat = 0x4017
      · simp [h17, ctlRead]
      · simp only [h16, h17, or_self, if_false]
        split_ifs
        · rfl
        · exact ppuPortPeek_eq_read s _
        · rfl

/-- At a PPU port the query is the port's own (R84, R88). -/
theorem busPeek_ppuPort (s : State) {a : Addr} (hl : 0x2000 ≤ a.toNat) (hh : a.toNat ≤ 0x3FFF) :
    busPeek s a = ppuPortPeek s (a.toNat % 8) := by
  rw [busPeek_eq_busRead, busRead_ppuPort s hl hh, ppuPortPeek_eq_read]

theorem ppuPortPeek_writeOnly (s : State) {n : Nat} (h : n ∉ [2, 4, 7]) : ppuPortPeek s n = 0#8 := by
  unfold ppuPortPeek
  split
  case h_4 => rfl
  all_goals exact absurd (by decide) h

theorem ppuPortPeek_data (s : State) : ppuPortPeek s 7 =
    if 0x3F00 ≤ s.ppu.v.toNat % 0x4000 then ppuPeek s (BitVec.ofNat 14 s.ppu.v.toNat) else s.ppu.rdbuf := by
  simp only [ppuPortPeek, dataAddr_eq, BitVec.toNat_ofNat]

/-- Settles O29: query and read agree address by address (`busPeek_eq_busRead`), and at the ports the query is written out. -/
theorem peekAgreesWithRead : Obligations.PeekAgreesWithRead := by
  refine ⟨busPeek_eq_busRead, fun s a hl hh => ?ports, fun s => ?controllers⟩
  case ports =>
    rw [busPeek_ppuPort s hl hh]
    exact ⟨fun h => by rw [h]; rfl, fun h => by rw [h]; rfl, fun h => by rw [h]; exact ppuPortPeek_data s,
      ppuPortPeek_writeOnly s⟩
  case controllers =>
    rw [busPeek_eq_busRead, busPeek_eq_busRead]
    exact ⟨rfl, rfl⟩

/-! ### The cartridge on the CPU side (R421) -/

section
variable (s : State) {a : Addr} (d : Byte)

theorem cartCpuWrite_high (h : 0x8000 ≤ a.toNat) :
    cartCpuWrite s a d = some { s with mapper := s.mapper.writeReg a d } := by
  simp [cartCpuWrite, h]

/-- An offset is reduced modulo the ROM's size, which is not 0 (R423). -/
theorem prgOffset_lt (h : 1 ≤ s.cart.prgBanks) : s.mapper.prgOffset s.cart a % s.cart.prgSize < 16384 * s.cart.prgBanks :=
  Nat.mod_lt _ (show 0 < 16384 * s.cart.prgBanks by omega)

variable (hl : 0x6000 ≤ a.toNat) (hh : a.toNat < 0x8000)
include hl hh

theorem cart_ram (hr : s.mapper.hasRam = true) :
    s.mapper.cpuMapRead s.cart s.mapperRam a = .direct (s.mapperRam.read (a.toNat % 0x2000)) ∧
      cartCpuWrite s a d = some { s with mapperRam := s.mapperRam.write (a.toNat % 0x2000) d } := by
  simp [Mapper.cpuMapRead, cartCpuWrite, hl, hr, show ¬ 0x8000 ≤ a.toNat by omega]

theorem cart_noRam (hr : s.mapper.hasRam = false) :
    s.mapper.cpuMapRead s.cart s.mapperRam a = .declined ∧ cartCpuWrite s a d = none := by
  simp [Mapper.cpuMapRead, cartCpuWrite, hr, show ¬ 0x8000 ≤ a.toNat by omega]

end

theorem busRead_of_claimed {s : State} {a : Addr} {v : Byte} (h : cartCpuRead s a = some v) : busRead s a = (v, s) := by
  simp only [busRead, h]

/-- Settles O31: the three ranges of the cartridge's space, for any variant. -/
theorem cartridgeCpuContract : Obligations.CartridgeCpuContract := fun s a d hb =>
  ⟨fun h => ⟨cpuMapRead_low _ _ _ h, cartCpuWrite_low s d h⟩,
    fun h => ⟨⟨_, cpuMapRead_high _ _ _ h, prgOffset_lt s hb⟩, _, cartCpuWrite_high s d h⟩,
    cart_ram s d, cart_noRam s d,
    fun v h => ⟨busRead_of_claimed h, by rw [busPeek_eq_busRead, busRead_of_claimed h]⟩⟩

/-! ### The controller ports (R400, R401) -/

/-- The bit read after `n` shifts: bit `7 - n`, and 0 from the ninth read on. -/
theorem shifted_topBit (c : Byte) (n : Nat) :
    (c <<< n) >>> 7 = if n < 8 ∧ c.getLsbD (7 - n) = true then 1#8 else 0#8 := by
  refine BitVec.eq_of_getLsbD_eq fun i hi => ?_
  rw [BitVec.getLsbD_ushiftRight, BitVec.getLsbD_shiftLeft]
  by_cases h0 : i = 0
  · subst h0
    by_cases hn : n < 8
    · cases c.getLsbD (7 - n) <;> simp [hn, show ¬ 7 < n by omega]
    · simp [hn, show 7 < n by omega]
  · have : ¬ 7 + i < 8 := by omega
    split <;> simp [this, h0, BitVec.getLsbD_one]

/-- `n` reads of port 0x4016 shift its register `n` times and touch nothing else. -/
theorem reads_port0 (s : State) (n : Nat) :
    (fun u => (busRead u 0x4016#16).2)^[n] s = { s with ctlShift0 := s.ctlShift0 <<< n } := by
  induction n with
  | zero => simp
  | succ n ih =>
    rw [Function.iterate_succ_apply', ih, BitVec.shiftLeft_add]
    rfl

theorem reads_port1 (s : State) (n : Nat) :
    (fun u => (busRead u 0x4017#16).2)^[n] s = { s with ctlShift1 := s.ctlShift1 <<< n } := by
  induction n with
  | zero => simp
  | succ n ih =>
    rw [Function.iterate_succ_apply', ih, BitVec.shiftLeft_add]
    rfl

/-- Settles O32: the write loads the register, `n` reads shift it, and the next read is its top bit (`shifted_topBit`). -/
theorem controllerPorts : Obligations.ControllerPorts := by
  intro s v n read bit
  have after0 : (read 0x4016#16)^[n] (busWrite s 0x4016#16 v) = { s with ctlShift0 := s.ctlIn0 <<< n } := reads_port0 _ n
  have after1 : (read 0x4017#16)^[n] (busWrite s 0x4017#16 v) = { s with ctlShift1 := s.ctlIn1 <<< n } := reads_port1 _ n
  rw [after0, after1]
  exact ⟨shifted_topBit _ n, rfl, shifted_topBit _ n, rfl⟩

end Sys2Proof.Machine
end

section
/-! PROOF. The registers of ids 1 and 4 that count: five serial writes load a register (R435), and the scanline counter raises its
request (R450). -/

namespace Sys2Proof.Machine

open Sys2Proof

/-! ### The serial register (R435) -/

/-- The load register after one more bit, which enters at the top. -/
def serialIn (l : BitVec 5) (d : Byte) : BitVec 5 := (l >>> 1) ||| ((d.setWidth 5 &&& 1#5) <<< 4)

/-- The register that address bits 14:13 select takes `x`, and the sequence starts again. -/
def ShiftRegs.loadInto (r : ShiftRegs) (port : Nat) (x : BitVec 5) : ShiftRegs :=
  match port with
  | 0 => { r with load := 0#5, count := 0, control := x }
  | 1 => { r with load := 0#5, count := 0, chrLo := x }
  | 2 => { r with load := 0#5, count := 0, chrHi := x }
  | _ => { r with load := 0#5, count := 0, prg := x.setWidth 4 }

theorem serialIn_toNat (l : BitVec 5) (d : Byte) : (serialIn l d).toNat = l.toNat / 2 + 16 * (d.toNat % 2) := by
  have hl := l.isLt
  have old : (l >>> 1).toNat = l.toNat / 2 := by rw [BitVec.toNat_ushiftRight, Nat.shiftRight_eq_div_pow]
  have bit : (d.setWidth 5 &&& 1#5).toNat = d.toNat % 2 := by
    have := Nat.and_two_pow_sub_one_eq_mod (d.setWidth 5).toNat 1
    rw [BitVec.toNat_setWidth] at this
    rw [BitVec.toNat_and, BitVec.toNat_setWidth]
    exact this.trans (by omega)
  have new : ((d.setWidth 5 &&& 1#5) <<< 4).toNat = 2 ^ 4 * (d.toNat % 2) := by
    rw [BitVec.toNat_shiftLeft, bit, Nat.shiftLeft_eq]
    omega
  rw [serialIn, BitVec.toNat_or, old, new, Nat.or_comm, ← Nat.two_pow_add_eq_or_of_lt (by omega)]
  omega

section
variable {r : ShiftRegs} {d : Byte} (a : Addr)

/-- One of the first four writes shifts its bit in. -/
theorem shiftWrite_early (h : d.getLsbD 7 = false) (hc : r.count + 1 ≠ 5) :
    r.write a d = { r with load := serialIn r.load d, count := r.count + 1 } := by
  rw [ShiftRegs.write, if_neg (by rw [h]; decide)]
  exact if_neg hc

/-- A write with bit 7 set restarts the sequence and sets PRG mode 3. -/
theorem shiftWrite_restart (h : d.getLsbD 7 = true) :
    r.write a d = { r with load := 0#5, count := 0, control := r.control ||| 0x0C#5 } := if_pos h

/-- The fifth write loads the register its address selects. -/
theorem shiftWrite_fifth (h : d.getLsbD 7 = false) (hc : r.count = 4) :
    r.write a d = r.loadInto (a.toNat / 0x2000 % 4) (serialIn r.load d) := by
  rw [ShiftRegs.write, if_neg (by rw [h]; decide)]
  exact if_pos (by rw [hc])

end

/-- Five bits shifted in are a number, least significant bit first, whatever the register held. -/
theorem serialIn_five (l : BitVec 5) (d0 d1 d2 d3 d4 : Byte) :
    serialIn (serialIn (serialIn (serialIn (serialIn l d0) d1) d2) d3) d4 = BitVec.ofNat 5 (d0.toNat % 2 +
      2 * (d1.toNat % 2) + 4 * (d2.toNat % 2) + 8 * (d3.toNat % 2) + 16 * (d4.toNat % 2)) := by
  have hl := l.isLt
  apply BitVec.eq_of_toNat_eq
  simp only [serialIn_toNat, BitVec.toNat_ofNat]
  omega

/-- The mode bits of the control register after a restart; the others stay. -/
theorem restart_control (c : BitVec 5) : (c ||| 0x0C#5).toNat / 4 % 4 = 3 ∧ (c ||| 0x0C#5).toNat % 4 = c.toNat % 4 ∧
    (c ||| 0x0C#5).getLsbD 4 = c.getLsbD 4 := by
  revert c
  decide

/-- Settles O48: four writes shift in, the fifth loads what the five shifted in (`serialIn_five`). -/
theorem serialRegisterLoad : Obligations.SerialRegisterLoad := by
  refine ⟨?five, fun r a d h => ?restart⟩
  case five =>
    intro r a0 a1 a2 a3 a4 d0 d1 d2 d3 d4 hc h0 h1 h2 h3 h4 r4 value
    have after4 : r4 = { r with load := serialIn (serialIn (serialIn (serialIn r.load d0) d1) d2) d3, count := 4 } := by
      simp only [r4]
      rw [shiftWrite_early a0 h0 (by omega), shiftWrite_early a1 h1 (by simp [hc]), shiftWrite_early a2 h2 (by simp [hc]),
        shiftWrite_early a3 h3 (by simp [hc]), hc]
    refine ⟨by rw [after4], ?_⟩
    have narrow : (BitVec.ofNat 5 value).setWidth 4 = BitVec.ofNat 4 (value % 16) := by
      apply BitVec.eq_of_toNat_eq
      simp only [BitVec.toNat_setWidth, BitVec.toNat_ofNat]
      omega
    have five : serialIn r4.load d4 = BitVec.ofNat 5 value := by
      rw [after4]
      exact serialIn_five r.load d0 d1 d2 d3 d4
    rw [shiftWrite_fifth a4 h4 (by rw [after4]), five, after4]
    simp only [ShiftRegs.loadInto, narrow] <;> rfl
  case restart =>
    rw [shiftWrite_restart a h]
    exact ⟨rfl, restart_control r.control⟩

/-! ### The scanline counter (R450) -/

/-- From a cleared counter, hook call `k + 1` leaves the latch less `k`; the call that reaches 0 raises the request. -/
theorem onScanline_iterate {r : ScanlineRegs} (hc : r.irqCounter = 0#8) (ha : r.irqActive = false) (k : Nat)
    (hk : k ≤ r.irqLatch.toNat) : ScanlineRegs.onScanline^[k + 1] r =
      { r with irqCounter := r.irqLatch - BitVec.ofNat 8 k
               irqActive := decide (k = r.irqLatch.toNat) && r.irqEnable } := by
  have zero_iff (j : Nat) (hj : j ≤ r.irqLatch.toNat) : r.irqLatch - BitVec.ofNat 8 j = 0#8 ↔ j = r.irqLatch.toNat := by
    bv_omega
  induction k with
  | zero =>
    have z := zero_iff 0 hk
    rw [BitVec.sub_zero] at z
    simp [ScanlineRegs.onScanline, hc, ha, z]
  | succ k ih =>
    have ne : k ≠ r.irqLatch.toNat := by omega
    have running : ¬ r.irqLatch - BitVec.ofNat 8 k = 0#8 := fun h => ne ((zero_iff k (by omega)).1 h)
    have next : r.irqLatch - BitVec.ofNat 8 k - 1#8 = r.irqLatch - BitVec.ofNat 8 (k + 1) := by bv_omega
    rw [Function.iterate_succ_apply', ih (by omega)]
    simp only [ScanlineRegs.onScanline, running, if_false, next, zero_iff (k + 1) hk, ne, decide_false, Bool.false_and,
      Bool.false_or]

/-- While the interrupt is disabled no call raises the request. -/
theorem onScanline_disabled {r : ScanlineRegs} (he : r.irqEnable = false) (ha : r.irqActive = false) (k : Nat) :
    (ScanlineRegs.onScanline^[k] r).irqEnable = false ∧ (ScanlineRegs.onScanline^[k] r).irqActive = false := by
  induction k with
  | zero => exact ⟨he, ha⟩
  | succ k ih =>
    rw [Function.iterate_succ_apply']
    exact ⟨ih.1, by simp [ScanlineRegs.onScanline, ih]⟩

/-- Settles O49: the count after each call (`onScanline_iterate`) reaches 0 at call `n + 1`. -/
theorem scanlineCounter : Obligations.ScanlineCounter := by
  intro r k hc ha
  refine ⟨fun hk => ?_, fun hk => ?_, fun he => (onScanline_disabled he ha k).2, irqPending_irqAcknowledge _⟩
  · cases k with
    | zero => exact ha
    | succ k =>
      rw [onScanline_iterate hc ha k (by omega)]
      simp [show k ≠ r.irqLatch.toNat by omega]
  · rw [hk, onScanline_iterate hc ha _ le_rfl]
    simp

end Sys2Proof.Machine
end

section
/-! PROOF. Bank switching (R423, R430 to R460): each variant's windows in integer arithmetic modulo the ROM's size, and its
register writes. -/

namespace Sys2Proof.Machine

open Sys2Proof

/-! ### The whole ROM, and its last banks -/

section
variable {c : Cart} {a : Addr}

/-- The last 16 KB of PRG ROM. -/
theorem p16_last (h : 1 ≤ c.prgBanks) :
    p16 (c.prgBanks - 1) a % c.prgSize = 16384 * c.prgBanks - 0x4000 + a.toNat % 0x4000 := by
  rw [Nat.mod_eq_of_lt] <;> simp only [p16, Cart.prgSize] <;> omega

/-- The last 8 KB of PRG ROM. -/
theorem p8_last (h : 1 ≤ c.prgBanks) :
    p8 (2 * c.prgBanks - 1) a % c.prgSize = 16384 * c.prgBanks - 0x2000 + a.toNat % 0x2000 := by
  rw [Nat.mod_eq_of_lt] <;> simp only [p8, Cart.prgSize] <;> omega

/-- PRG ROM in order, a single bank twice, as ids 0 and 3 show it. -/
theorem fixed_prgOffset (h : 1 ≤ c.prgBanks) : Mapper.fixed.prgOffset c a % c.prgSize =
    if c.prgBanks = 1 then a.toNat % 0x4000 else a.toNat % 0x8000 := by
  by_cases h1 : c.prgBanks = 1
  · rw [if_pos h1, Nat.mod_eq_of_lt] <;> simp only [Mapper.prgOffset, Cart.prgSize, h1, lt_irrefl, if_false]
    omega
  · have h2 : 1 < c.prgBanks := by omega
    rw [if_neg h1, Nat.mod_eq_of_lt] <;> simp only [Mapper.prgOffset, Cart.prgSize, h2, if_true]
    omega

/-- The fixed banks of id 9 lie at the end of PRG ROM, counted with one copy of it before the start (log 9). -/
theorem latch_prgOffset (r : LatchRegs) (h : 1 ≤ c.prgBanks) (ha : 0xA000 ≤ a.toNat) :
    (Mapper.latch r).prgOffset c a % c.prgSize =
      (2 * (16384 * c.prgBanks) - 0x6000 + (a.toNat - 0xA000)) % (16384 * c.prgBanks) := by
  have bank : (2 * (c.prgBanks : Int) - 3 + (((a.toNat - 0xA000) / 0x2000 : Nat) : Int)) * 0x2000 +
      ((a.toNat % 0x2000 : Nat) : Int) =
      ((2 * (16384 * c.prgBanks) - 0x6000 + (a.toNat - 0xA000) : Nat) : Int) - ((c.prgSize : Nat) : Int) := by
    simp only [Cart.prgSize]
    omega
  simp only [Mapper.prgOffset, show ¬ a.toNat < 0xA000 by omega, if_false, bank]
  rw [Int.sub_emod_right, ← Int.natCast_emod, Int.toNat_natCast, Nat.mod_mod]
  rfl

theorem latch_last (r : LatchRegs) (h : 1 ≤ c.prgBanks) (ha : 0xE000 ≤ a.toNat) :
    (Mapper.latch r).prgOffset c a % c.prgSize = 16384 * c.prgBanks - 0x2000 + a.toNat % 0x2000 := by
  have hlt := a.isLt
  have e : 2 * (16384 * c.prgBanks) - 0x6000 + (a.toNat - 0xA000) =
      16384 * c.prgBanks - 0x2000 + a.toNat % 0x2000 + 16384 * c.prgBanks := by omega
  rw [latch_prgOffset r h (by omega), e, Nat.add_mod_right, Nat.mod_eq_of_lt (by omega)]

end

/-- The bank number in the low nibble of a byte, and in its two pairs of bits. -/
theorem nibble_toNat (d : Byte) : (d.setWidth 4).toNat = d.toNat % 16 := BitVec.toNat_setWidth 4 d

theorem lowPair_toNat (d : Byte) : (d.setWidth 2).toNat = d.toNat % 4 := BitVec.toNat_setWidth 2 d

theorem highPair_toNat (d : Byte) : ((d >>> 4).setWidth 2).toNat = d.toNat / 16 % 4 := by
  rw [BitVec.toNat_setWidth, BitVec.toNat_ushiftRight, Nat.shiftRight_eq_div_pow]

/-- The two 1 KB or 4 KB banks of a pair share the number with its lowest bit dropped. -/
theorem pair_toNat (x : BitVec 5) : (x &&& 0x1E#5).toNat = x.toNat / 2 * 2 := by
  revert x
  decide

theorem pairLow_toNat (x : Byte) : (x &&& 0xFE#8).toNat = x.toNat / 2 * 2 := by
  revert x
  decide

theorem pairHigh_toNat (x : Byte) : (x ||| 1#8).toNat = x.toNat / 2 * 2 + 1 := by
  revert x
  decide

/-! ### The windows, variant by variant -/

section
variable {c : Cart} (ram : Mem 8) {a : Addr} (e : PpuAddr) (ha : 0x8000 ≤ a.toNat)
include ha

theorem scanlineBanks : ScanlineBanks c ram a e := by
  intro r shows last
  have lt := a.isLt
  have shows_of {bank : Nat} (h : (Mapper.scanline r).prgOffset c a = p8 bank a) : shows bank := by
    simp only [shows, cpuMapRead_high _ _ _ ha, h]
    rfl
  refine ⟨fun hw => shows_of ?_, fun hw hw' => shows_of ?_, fun hw hw' => shows_of ?_, fun hw => shows_of ?_,
    fun hc he => ?_, ?_⟩
  · simp only [Mapper.prgOffset, show a.toNat / 0x2000 % 4 = 0 by omega]
    rfl
  · simp only [Mapper.prgOffset, show a.toNat / 0x2000 % 4 = 1 by omega]
    rfl
  · simp only [Mapper.prgOffset, show a.toNat / 0x2000 % 4 = 2 by omega]
    rfl
  · simp only [Mapper.prgOffset, show a.toNat / 0x2000 % 4 = 3 by omega]
    rfl
  · rw [ppuMap_chr _ hc he]
    refine congrArg (fun o => some (o % (8192 * c.chrBanks))) ?_
    have swap : ∀ k < 8, k ^^^ 4 = (k + 4) % 8 := by decide
    have slot : (e.toNat / 0x400) ^^^ (if r.chrInv then 4 else 0) =
        if r.chrInv then (e.toNat / 0x400 + 4) % 8 else e.toNat / 0x400 := by
      split
      · exact swap _ (by omega)
      · exact Nat.xor_zero _
    have lt8 : (if r.chrInv then (e.toNat / 0x400 + 4) % 8 else e.toNat / 0x400) < 8 := by split <;> omega
    simp only [Mapper.chrOffset, slot]
    generalize (if r.chrInv then (e.toNat / 0x400 + 4) % 8 else e.toNat / 0x400) = k at lt8
    interval_cases k <;> simp only [c1, pairLow_toNat, pairHigh_toNat] <;> rfl
  · show r.mir.toMirroring = _
    cases r.mir <;> rfl

variable (hb : 1 ≤ c.prgBanks)
include hb

theorem fixedBanks : FixedBanks c ram a e := by
  refine ⟨?_, fun x => ?_, fun hc he => ?_⟩
  · rw [cpuMapRead_high _ _ _ ha, fixed_prgOffset hb]
  · rw [cpuMapRead_high _ _ _ ha]
    exact congrArg CpuMap.mapped (fixed_prgOffset hb)
  · have inside : e.toNat % c.chrSize = e.toNat := Nat.mod_eq_of_lt (by simp only [Cart.chrSize]; omega)
    refine ⟨?_, fun p => ?_⟩ <;> rw [ppuMap_chr _ hc he] <;> exact congrArg some inside

theorem shiftBanks : ShiftBanks c ram a e := by
  intro r size mode shown
  have shown_eq : shown = .mapped ((Mapper.shift r).prgOffset c a % c.prgSize) := cpuMapRead_high _ _ _ ha
  have lt : mode < 4 := Nat.mod_lt _ (by decide)
  rw [shown_eq]
  simp only [Mapper.prgOffset]
  refine ⟨fun h => ?_, fun h hw => ?_, fun h hw => ?_, fun h hw => ?_, fun h hw => ?_, fun hc he => ?_, rfl⟩
  · rcases h with h | h <;> simp only [show r.control.toNat / 4 % 4 = _ from h] <;> rfl
  · have low : p16 0 a % c.prgSize = a.toNat % 0x4000 := by
      rw [Nat.mod_eq_of_lt] <;> simp only [p16, Cart.prgSize] <;> omega
    simp only [show r.control.toNat / 4 % 4 = _ from h, hw, if_true, low]
  · simp only [show r.control.toNat / 4 % 4 = _ from h, show ¬ a.toNat < 0xC000 by omega, if_false]
    rfl
  · simp only [show r.control.toNat / 4 % 4 = _ from h, hw, if_true]
    rfl
  · simp only [show r.control.toNat / 4 % 4 = _ from h, show ¬ a.toNat < 0xC000 by omega, if_false, p16_last hb]
    rfl
  · rw [ppuMap_chr _ hc he]
    refine congrArg (fun o => some (o % (8192 * c.chrBanks))) ?_
    simp only [Mapper.chrOffset, c4, pair_toNat]
    split_ifs <;> omega

theorem latchBanks : LatchBanks c ram a e := by
  intro r size shown
  have shown_eq : shown = .mapped ((Mapper.latch r).prgOffset c a % c.prgSize) := cpuMapRead_high _ _ _ ha
  rw [shown_eq]
  refine ⟨fun hw => ?_, fun hw => ?_, fun hc he => ?_, ?_⟩
  · simp only [Mapper.prgOffset, hw, if_true]
    rfl
  · rw [latch_prgOffset r hb hw]
  · rw [ppuMap_chr _ hc he]
    refine congrArg (fun o => some (o % (8192 * c.chrBanks))) ?_
    simp only [Mapper.chrOffset, c4]
    split_ifs <;> rfl
  · show r.mir.toMirroring = _
    cases r.mir <;> rfl

end

/-! ### The register writes (R450, R455) -/

theorem scanlineWrite (a : Addr) (d : Byte) : ScanlineWrite a d := by
  intro r port after
  have target : d.setWidth 3 = BitVec.ofNat 3 d.toNat := (BitVec.ofNat_toNat 3 d).symm
  simp only [after, port, Mapper.writeReg, Mapper.scanline.injEq]
  refine ⟨fun h => ?_, fun h => ?_, fun h => ?_, fun h => ?_, fun h => ?_, fun h => ?_, fun h => ?_, fun h => ?_⟩ <;>
    obtain ⟨high, low⟩ := scanlinePort a _ h <;> simp only [ScanlineRegs.write, high, low]
  · rw [← target]
    rfl
  · refine ⟨r.reg.set r.target.toNat d (by have := r.target.isLt; omega), rfl, fun k => ?_⟩
    show (r.reg.set _ d _)[k.val] = _
    rw [Vector.getElem_set]
    simp only [eq_comm]
    rfl
  · rw [← mirroringBit_eq]
    rfl
  all_goals rfl

theorem latchWrite (a : Addr) (d : Byte) : LatchWrite a d := by
  intro r digit bank after
  have five : d.setWidth 5 = bank := (BitVec.ofNat_toNat 5 d).symm
  have four : d.setWidth 4 = BitVec.ofNat 4 d.toNat := (BitVec.ofNat_toNat 4 d).symm
  simp only [after, digit, Mapper.writeReg, Mapper.latch.injEq, ← five, ← four, ← mirroringBit_eq]
  refine ⟨fun h => ?_, fun h => ?_, fun h => ?_, fun h => ?_, fun h => ?_, fun h => ?_, fun h => ?_⟩
  · rcases h with h | h <;> simp only [LatchRegs.write, h]
  all_goals simp only [LatchRegs.write, h]

/-- Settles O50: every window is an offset modulo the ROM's size (`fixedBanks`, `shiftBanks`, `scanlineBanks`, `latchBanks`, and
the last banks), every register write its decode, and only id 9's reads move registers. -/
theorem bankSwitching : Obligations.BankSwitching := by
  refine ⟨?windows, fun a d _ => ⟨rfl, scanlineWrite a d, latchWrite a d⟩, ?bus, ?ppu⟩
  case windows =>
    intro c ram a hb ha size
    simp only [cpuMapRead_high _ _ _ ha]
    have top {w : Addr} (h : 0xC000 ≤ w.toNat) : ¬ w.toNat < 0xC000 := by omega
    refine ⟨fun r hw hm => ?_, fun p hw => ?_, fun r hw => ?_, fun r hw => ?_, fun h2 hw => ?_, fun p d b hw => ?_,
      fun p x d b e => ⟨?_, fun hc he => ⟨?_, ?_⟩⟩,
      fun e => ⟨fixedBanks ram e ha hb, shiftBanks ram e ha hb, scanlineBanks ram e ha, latchBanks ram e ha hb⟩⟩
    · simp only [Mapper.prgOffset, hm, top hw, if_false, p16_last hb]
      rfl
    · simp only [Mapper.prgOffset, top hw, if_false, p16_last hb]
      rfl
    · have lt := a.isLt
      simp only [Mapper.prgOffset, show a.toNat / 0x2000 % 4 = 3 by omega, p8_last hb]
      rfl
    · rw [latch_last r hb hw]
    · rw [fixed_prgOffset hb]
      have lt := a.isLt
      refine congrArg CpuMap.mapped ?_
      simp only [size]
      split <;> omega
    · simp only [Mapper.writeReg, Mapper.prgOffset, hw, if_true, p16, nibble_toNat]
      rfl
    · simp only [Mapper.writeReg, Mapper.prgOffset, p32, highPair_toNat]
      rfl
    · rw [ppuMap_chr _ hc he]
      simp only [Mapper.writeReg, Mapper.chrOffset, c8, lowPair_toNat, Nat.mod_eq_of_lt he]
      rfl
    · rw [ppuMap_chr _ hc he]
      simp only [Mapper.writeReg, Mapper.chrOffset, c8, lowPair_toNat, Nat.mod_eq_of_lt he]
      rfl
  case bus =>
    intro s a d o ha
    refine ⟨by simp only [busWrite, cartCpuWrite_high s d ha], fun h => busRead_of_claimed ?_⟩
    simp only [cartCpuRead, h]
  case ppu =>
    refine fun s e => ⟨fun o h => ppuRead_claimed h, fun r h hc he => ?_, fun h => ?_⟩
    · have claimed := ppuMap_chr s.mapper hc he
      rw [h] at claimed
      simp only [ppuRead, ppuTouch, Mapper.afterPpuRead, h, claimed, Option.isSome_some, if_true, touch_eq]
    · rcases h with h | h | h
      · exact ppuTouch_of_declined (ppuMap_noChr _ h e)
      · exact ppuTouch_of_declined (ppuMap_above _ _ h)
      · exact ppuTouch_of_ne_latch h e

end Sys2Proof.Machine
end

section
/-! PROOF. The dot stage by stage (R330, R331): each stage as an update of the fields it may change, the pipelines' part of a dot
position by position, and what ends every dot. -/

namespace Sys2Proof.Machine

open Sys2Proof

/-! ### The stages of the PPU alone -/

section
variable (q : Ppu)

theorem incrementCoarseX_eq : incrementCoarseX q = { q with v := if q.rendering then nextCoarseX q.v else q.v } := by
  unfold incrementCoarseX
  split <;> rfl

theorem incrementY_eq : incrementY q = { q with v := if q.rendering then nextY q.v else q.v } := by
  unfold incrementY
  split <;> rfl

theorem transferX_eq : transferX q = { q with v := if q.rendering then copyX q.v q.t else q.v } := by
  unfold transferX
  split <;> rfl

theorem transferY_eq : transferY q = { q with v := if q.rendering then copyY q.v q.t else q.v } := by
  unfold transferY
  split <;> rfl

theorem shiftBackground_eq : shiftBackground q = { q with
    shPatLo := if q.renderBackground then q.shPatLo <<< 1 else q.shPatLo
    shPatHi := if q.renderBackground then q.shPatHi <<< 1 else q.shPatHi
    shAttLo := if q.renderBackground then q.shAttLo <<< 1 else q.shAttLo
    shAttHi := if q.renderBackground then q.shAttHi <<< 1 else q.shAttHi } := by
  unfold shiftBackground
  split <;> rfl

/-- Of the sprites, `UpdateShifters` moves the slots in use (R350). -/
theorem updateShifters_eq (d : Nat) : updateShifters q d = { shiftBackground q with
    sprites := if q.renderSprites && decide (d ≤ 257) then tickSprites q.secCount q.sprites else q.sprites } := by
  have on : (shiftBackground q).renderSprites = q.renderSprites := by rw [shiftBackground_eq]; rfl
  have slots : (shiftBackground q).sprites = q.sprites := by rw [shiftBackground_eq]
  have count : (shiftBackground q).secCount = q.secCount := by rw [shiftBackground_eq]
  by_cases h : (q.renderSprites && decide (d ≤ 257)) = true
  · simp only [updateShifters, on, slots, count, h, if_true]
  · simp only [updateShifters, on, h, if_false, Bool.false_eq_true, ← slots]

/-! ### Sprite evaluation (R355) -/

/-- The entries in range on line `l`, in OAM order. -/
def spritesFound (q : Ppu) (l : Int) : List Nat := (List.range 64).filter (inRange q l)

/-- The secondary buffer with the first eight of the entries `found` (R355). -/
def slotsOf (oam : Mem 8) (found : List Nat) : List Sprite :=
  (found.take 8).map (oamEntry oam) ++ List.replicate (8 - found.length) Sprite.empty

/-- An entry found while a slot is free goes to the first free one. -/
theorem slotsOf_concat (oam : Mem 8) {found : List Nat} (h : found.length < 8) (n : Nat) :
    (slotsOf oam found).set found.length (oamEntry oam n) = slotsOf oam (found ++ [n]) := by
  obtain ⟨k, hk⟩ : ∃ k, 8 - found.length = k + 1 := ⟨7 - found.length, by omega⟩
  have all : found.take 8 = found := List.take_of_length_le (by omega)
  have len : (found ++ [n]).length = found.length + 1 := List.length_append
  have all' : (found ++ [n]).take 8 = found ++ [n] := List.take_of_length_le (by omega)
  have rest : 8 - (found ++ [n]).length = k := by omega
  rw [slotsOf, slotsOf, all, all', rest, hk, List.replicate_succ]
  simp

/-- An entry found after eight gets no slot. -/
theorem slotsOf_full (oam : Mem 8) {found : List Nat} (h : 8 ≤ found.length) (n : Nat) :
    slotsOf oam (found ++ [n]) = slotsOf oam found := by
  have rest : 8 - (found ++ [n]).length = 8 - found.length := by simp only [List.length_append, List.length_singleton]; omega
  rw [slotsOf, List.take_append_of_le_length h, rest, slotsOf]

/-- The PPU after an evaluation that has found the entries `found`. -/
def evaluatedAs (q : Ppu) (found : List Nat) : Ppu :=
  { q with sprites := slotsOf q.oam found, secCount := min 8 found.length, s0Possible := decide (0 ∈ found)
           spriteOverflow := q.spriteOverflow || decide (9 ≤ found.length) }

/-- One turn of the loop: an entry in range joins those found. Entry 0 comes first, while a slot is free. -/
theorem evaluateEntry_evaluatedAs (l : Int) {found : List Nat} {n : Nat} (h0 : n = 0 → found.length < 8) :
    evaluateEntry l (evaluatedAs q found) n = evaluatedAs q (found ++ if inRange q l n then [n] else []) := by
  have range : inRange (evaluatedAs q found) l n = inRange q l n := rfl
  have len : (found ++ [n]).length = found.length + 1 := List.length_append
  have zero : decide (0 ∈ found ++ [n]) = (decide (0 ∈ found) || decide (n = 0)) := by simp [eq_comm]
  unfold evaluateEntry
  rw [range]
  split
  · by_cases hlt : found.length < 8
    · have count : min 8 found.length = found.length := by omega
      have count' : min 8 (found.length + 1) = found.length + 1 := by omega
      simp only [evaluatedAs, count, hlt, if_true, slotsOf_concat q.oam hlt, len, count', zero,
        show ¬ 9 ≤ found.length by omega, show ¬ 9 ≤ found.length + 1 by omega]
    · have count : min 8 found.length = 8 := by omega
      have count' : min 8 (found.length + 1) = 8 := by omega
      simp only [evaluatedAs, count, lt_irrefl, if_false, slotsOf_full q.oam (show 8 ≤ found.length by omega), len, count',
        zero, show 9 ≤ found.length + 1 by omega, show ¬ n = 0 from fun h => hlt (h0 h), decide_true, decide_false,
        Bool.or_true, Bool.or_false]
  · rw [List.append_nil]

theorem evaluateEntries_evaluatedAs (l : Int) {ns : List Nat} (h : 0 ∉ ns) (found : List Nat) :
    ns.foldl (evaluateEntry l) (evaluatedAs q found) = evaluatedAs q (found ++ ns.filter (inRange q l)) := by
  induction ns generalizing found with
  | nil => rw [List.foldl_nil, List.filter_nil, List.append_nil]
  | cons n ns ih =>
    obtain ⟨hn, hns⟩ := not_or.1 (mt List.mem_cons.2 h)
    rw [List.foldl_cons, evaluateEntry_evaluatedAs q l (fun e => absurd e.symm hn), ih hns, List.filter_cons,
      List.append_assoc]
    split <;> rfl

/-- Evaluation as a whole (R355). -/
theorem spriteEvaluate_eq (l : Int) : spriteEvaluate l q = evaluatedAs q (spritesFound q l) := by
  have start : clearSecondary q = evaluatedAs q [] := by simp [clearSecondary, evaluatedAs, slotsOf]
  have range : List.range 64 = 0 :: (List.range 63).map Nat.succ := List.range_succ_eq_map
  rw [spriteEvaluate, spritesFound, start, range, List.foldl_cons, evaluateEntry_evaluatedAs q l (fun _ => by decide),
    evaluateEntries_evaluatedAs q l (by simp), List.filter_cons]
  split <;> rfl

end

theorem inRange_eq (q : Ppu) (l : Int) (n : Nat) : inRange q l n =
    decide (((q.oam.read (4 * n)).toNat : Int) ≤ l ∧
      l < ((q.oam.read (4 * n)).toNat : Int) + if q.ctrl.getLsbD 5 then 16 else 8) := by
  have height : ((q.spriteHeight : Nat) : Int) = if q.ctrl.getLsbD 5 then 16 else 8 := by
    unfold Ppu.spriteHeight Ppu.tallSprites
    split <;> rfl
  simp only [inRange, height, decide_eq_decide]
  omega

/-- Settles O45: evaluation is the list of entries in range, from which every field is read (`spriteEvaluate_eq`). -/
theorem spriteEvaluation : Obligations.SpriteEvaluation := by
  intro l q height found r
  have hf : spritesFound q l = found := List.filter_congr fun n _ => inRange_eq q l n
  have hr : r = evaluatedAs q found := (spriteEvaluate_eq q l).trans (by rw [hf])
  rw [hr]
  refine ⟨rfl, rfl, rfl, rfl, decide_eq_true_iff, fun hl => List.filter_eq_nil_iff.2 fun n _ => ?_⟩
  have := (q.oam.read (4 * n)).isLt
  simp only [decide_eq_true_eq]
  omega

end Sys2Proof.Machine
end

section
/-! PROOF. The pipelines' part of a dot, position by position (R330), and what ends every dot (R331, R332, R360). -/

namespace Sys2Proof.Machine

open Sys2Proof

/-! ### A dot of the fetch windows -/

/-- A fetch phase changes `v`, the fetch latches, the background shifters and the Mapper's latches at most (R345). -/
theorem fetchPhase_only (d : Nat) (s : State) : ∃ v id att lo hi plo phi alo ahi m, fetchPhase d s =
    { s with ppu := { s.ppu with v := v, nxId := id, nxAttr := att, nxLo := lo, nxHi := hi, shPatLo := plo, shPatHi := phi,
                                 shAttLo := alo, shAttHi := ahi }
             mapper := m } := by
  unfold fetchPhase
  split
  case h_5 =>
    rw [State.onPpu, incrementCoarseX_eq]
    exact ⟨_, _, _, _, _, _, _, _, _, _, rfl⟩
  all_goals exact ⟨_, _, _, _, _, _, _, _, _, _, rfl⟩

/-- A dot of the fetch windows moves the sprite slots besides (R350). -/
theorem fetchDot_only (d : Nat) (s : State) : ∃ v id att lo hi plo phi alo ahi m, fetchDot d s =
    { s with ppu := { s.ppu with v := v, nxId := id, nxAttr := att, nxLo := lo, nxHi := hi, shPatLo := plo, shPatHi := phi,
                                 shAttLo := alo, shAttHi := ahi
                                 sprites := if s.ppu.renderSprites && decide (d ≤ 257) then
                                   tickSprites s.ppu.secCount s.ppu.sprites else s.ppu.sprites }
             mapper := m } := by
  obtain ⟨v, id, att, lo, hi, plo, phi, alo, ahi, m, e⟩ := fetchPhase_only d (s.onPpu fun q => updateShifters q d)
  rw [fetchDot, e, State.onPpu, updateShifters_eq, shiftBackground_eq]
  exact ⟨v, id, att, lo, hi, plo, phi, alo, ahi, m, rfl⟩

/-- `v` over a fetch phase: coarse X moves in the last of the eight (R330, R351). -/
theorem fetchPhase_v (d : Nat) (s : State) : (fetchPhase d s).ppu.v =
    if (d - 1) % 8 = 7 ∧ s.ppu.rendering = true then nextCoarseX s.ppu.v else s.ppu.v := by
  unfold fetchPhase
  split
  case h_5 h => 
    rw [onPpu_ppu, incrementCoarseX_eq]
    simp [h]
  case h_6 h1 h2 h3 h4 h5 =>
    rw [if_neg (fun c => h5 c.1)]
  all_goals
    rename_i h
    rw [if_neg (by omega)]
    rfl

theorem fetchDot_v (d : Nat) (s : State) : (fetchDot d s).ppu.v =
    if (d - 1) % 8 = 7 ∧ s.ppu.rendering = true then nextCoarseX s.ppu.v else s.ppu.v := by
  have kept : (updateShifters s.ppu d).rendering = s.ppu.rendering := by
    rw [updateShifters_eq, shiftBackground_eq]
    rfl
  rw [fetchDot, fetchPhase_v, onPpu_ppu, kept, updateShifters_v]

/-- The PPU-space read of a fetch phase (R346 to R348). -/
def phaseReads (q : Ppu) (d : Nat) : List PpuAddr :=
  match (d - 1) % 8 with
  | 0 => [q.tileAt]
  | 2 => [q.attributeAt]
  | 4 => [q.patternAt]
  | 6 => [q.patternAt + 8#14]
  | _ => []

theorem fetchNametableByte_mapper (s : State) :
    (fetchNametableByte s).mapper = s.mapper.afterPpuRead s.cart s.ppu.tileAt := by
  rw [← tileAddr_eq]
  rfl

theorem fetchPhase_mapper (d : Nat) (s : State) :
    (fetchPhase d s).mapper = (readsDone s (phaseReads s.ppu d)).mapper := by
  have lt : (d - 1) % 8 < 8 := Nat.mod_lt _ (by decide)
  unfold fetchPhase phaseReads
  generalize (d - 1) % 8 = k at lt
  interval_cases k
  · exact fetchNametableByte_mapper (s.onPpu loadBgShifters)
  · rfl
  · rw [← attributeAddr_eq]
    rfl
  · rfl
  · rw [← patternAddr_eq]
    rfl
  · rfl
  · rw [← patternAddr_eq]
    rfl
  · rfl

theorem fetchDot_mapper (d : Nat) (s : State) :
    (fetchDot d s).mapper = (readsDone s (phaseReads s.ppu d)).mapper := by
  have same : phaseReads (updateShifters s.ppu d) d = phaseReads s.ppu d := by
    rw [updateShifters_eq, shiftBackground_eq]
    rfl
  rw [fetchDot, fetchPhase_mapper, onPpu_ppu, same, readsDone_eq, readsDone_eq]
  rfl

/-! ### The positions -/

/-- The machine after the pipelines' part of a dot (R330). -/
def rendered (s : State) : State :=
  onlyIf s.ppu.onLine (renderDot s.ppu.scanline s.ppu.dot s.ppu.rendering) s

/-- Everything the pipelines do in a dot, by position. -/
theorem rendered_cases {motive : State → Prop} (s : State)
    (off : s.ppu.onLine = false → motive s)
    (window : s.ppu.onLine = true → 2 ≤ s.ppu.dot ∧ s.ppu.dot ≤ 256 ∨ 321 ≤ s.ppu.dot ∧ s.ppu.dot ≤ 337 →
      motive (onlyIf (decide (s.ppu.dot = 256)) (·.onPpu incrementY) (fetchDot s.ppu.dot s)))
    (evaluate : s.ppu.onLine = true → s.ppu.dot = 257 →
      motive ((fetchDot 257 s).onPpu fun q => spriteEvaluate s.ppu.scanline (transferX (loadBgShifters q))))
    (nametable : s.ppu.onLine = true → s.ppu.dot = 338 → motive (fetchNametableByte s))
    (sprites : s.ppu.onLine = true → s.ppu.dot = 340 → motive (spriteFetch s.ppu.scanline (fetchNametableByte s)))
    (other : s.ppu.onLine = true →
      ¬(2 ≤ s.ppu.dot ∧ s.ppu.dot ≤ 257 ∨ 321 ≤ s.ppu.dot ∧ s.ppu.dot ≤ 338 ∨ s.ppu.dot = 340) →
      motive (onlyIf (decide (s.ppu.dot = 260) && s.ppu.rendering) scanlineHook
        (onlyIf (decide (s.ppu.scanline = -1 ∧ 280 ≤ s.ppu.dot ∧ s.ppu.dot ≤ 304)) (·.onPpu transferY)
          (onlyIf (decide (s.ppu.scanline = -1 ∧ s.ppu.dot = 1)) (·.onPpu clearFlags) s)))) :
    motive (rendered s) := by
  unfold rendered
  cases hl : s.ppu.onLine with
  | false => exact off hl
  | true =>
    rw [onlyIf_true]
    by_cases hw : 2 ≤ s.ppu.dot ∧ s.ppu.dot ≤ 256 ∨ 321 ≤ s.ppu.dot ∧ s.ppu.dot ≤ 337
    · rw [renderDot_window _ _ _ hw]
      exact window hl hw
    by_cases h257 : s.ppu.dot = 257
    · rw [h257, renderDot_257]
      exact evaluate hl h257
    by_cases h338 : s.ppu.dot = 338
    · rw [h338, renderDot_338]
      exact nametable hl h338
    by_cases h340 : s.ppu.dot = 340
    · rw [h340, renderDot_340]
      exact sprites hl h340
    · have ho : ¬(2 ≤ s.ppu.dot ∧ s.ppu.dot ≤ 257 ∨ 321 ≤ s.ppu.dot ∧ s.ppu.dot ≤ 338 ∨ s.ppu.dot = 340) := by omega
      rw [renderDot_other _ _ _ ho]
      exact other hl ho

theorem rendered_stage (s : State) : DotStage s (rendered s) := DotStage.onlyIf fun _ => renderDot_stage _ _ _ s

theorem onlyIf_onPpu (c : Bool) (f : Ppu → Ppu) (s : State) :
    onlyIf c (·.onPpu f) s = s.onPpu fun q => if c then f q else q := by
  cases c <;> rfl

theorem onlyIf_hook_ppu (c : Bool) (s : State) : (onlyIf c scanlineHook s).ppu = s.ppu := by cases c <;> rfl

theorem onlyIf_hook_mapper (c : Bool) (s : State) :
    (onlyIf c scanlineHook s).mapper = if c then s.mapper.onScanline else s.mapper := by
  cases c <;> rfl

/-- What the pipelines leave of a PPU's own fields: the beam, the NMI request, the framebuffer and `s0_rendering` always,
the flags but at (-1, 1), the outcome of evaluation but at dot 257 (R330, R332, R355). -/
structure PipelineKept (p q : Ppu) : Prop where
  scanline : q.scanline = p.scanline
  dot : q.dot = p.dot
  frameComplete : q.frameComplete = p.frameComplete
  nmiReq : q.nmiReq = p.nmiReq
  fb : q.fb = p.fb
  s0Rendering : q.s0Rendering = p.s0Rendering
  vblank : q.vblank = if p.scanline = -1 ∧ p.dot = 1 then false else p.vblank
  spriteZeroHit : q.spriteZeroHit = if p.scanline = -1 ∧ p.dot = 1 then false else p.spriteZeroHit
  secCount : q.secCount = if p.onLine && decide (p.dot = 257) then (spriteEvaluate p.scanline p).secCount else p.secCount
  s0Possible : q.s0Possible =
    if p.onLine && decide (p.dot = 257) then (spriteEvaluate p.scanline p).s0Possible else p.s0Possible
  spriteOverflow : q.spriteOverflow =
    if p.onLine && decide (p.dot = 257) then (spriteEvaluate p.scanline p).spriteOverflow
    else if p.scanline = -1 ∧ p.dot = 1 then false else p.spriteOverflow

/-- A dot that neither clears the flags nor evaluates keeps all of them. -/
theorem PipelineKept.of_same {p q : Ppu} (hc : ¬(p.scanline = -1 ∧ p.dot = 1)) (he : p.onLine = true → p.dot ≠ 257)
    (h : q = { q with
      scanline := p.scanline, dot := p.dot, frameComplete := p.frameComplete, nmiReq := p.nmiReq, fb := p.fb
      s0Rendering := p.s0Rendering, vblank := p.vblank, spriteZeroHit := p.spriteZeroHit, secCount := p.secCount
      s0Possible := p.s0Possible, spriteOverflow := p.spriteOverflow }) : PipelineKept p q := by
  have he' : (p.onLine && decide (p.dot = 257)) = false := by
    cases hl : p.onLine <;> simp [hl] at he ⊢
    exact he
  rw [h]
  constructor <;> simp only [hc, he', if_false, Bool.false_eq_true]

theorem not_clears_of_off {q : Ppu} (h : q.onLine = false) : ¬(q.scanline = -1 ∧ q.dot = 1) := by
  simp only [Ppu.onLine, decide_eq_false_iff_not] at h
  omega

theorem rendered_kept (s : State) : PipelineKept s.ppu (rendered s).ppu := by
  refine rendered_cases (motive := fun t => PipelineKept s.ppu t.ppu) s (fun hl => ?off) (fun hl hw => ?window)
    (fun hl hd => ?evaluate) (fun hl hd => ?nametable) (fun hl hd => ?sprites) (fun hl hd => ?other)
  case off => exact .of_same (not_clears_of_off hl) (by simp [hl]) rfl
  case nametable => exact .of_same (by omega) (by omega) rfl
  case window =>
    obtain ⟨_, _, _, _, _, _, _, _, _, _, e⟩ := fetchDot_only s.ppu.dot s
    rw [onlyIf_onPpu, e, onPpu_ppu]
    split
    · rw [incrementY_eq]
      exact .of_same (by omega) (by omega) rfl
    · exact .of_same (by omega) (by omega) rfl
  case evaluate =>
    obtain ⟨_, _, _, _, _, _, _, _, _, _, e⟩ := fetchDot_only 257 s
    have hc : ¬(s.ppu.scanline = -1 ∧ s.ppu.dot = 1) := by omega
    rw [e, onPpu_ppu, spriteEvaluate_eq, transferX_eq]
    have he : (s.ppu.onLine && decide (s.ppu.dot = 257)) = true := by rw [hl, hd]; rfl
    have evaluated := spriteEvaluate_eq s.ppu s.ppu.scanline
    exact ⟨rfl, rfl, rfl, rfl, rfl, rfl, (if_neg hc).symm, (if_neg hc).symm, by rw [if_pos he, evaluated]; rfl,
      by rw [if_pos he, evaluated]; rfl, by rw [if_pos he, evaluated]; rfl⟩
  case sprites =>
    rw [show s.ppu.scanline = (fetchNametableByte s).ppu.scanline from rfl, spriteFetch_eq]
    exact .of_same (by omega) (by omega) rfl
  case other =>
    rw [onlyIf_hook_ppu, onlyIf_onPpu, onlyIf_onPpu, onPpu_ppu, onPpu_ppu, transferY_eq]
    by_cases hc : s.ppu.scanline = -1 ∧ s.ppu.dot = 1
    · have ht : ¬(s.ppu.scanline = -1 ∧ 280 ≤ s.ppu.dot ∧ s.ppu.dot ≤ 304) := by omega
      have he : (s.ppu.onLine && decide (s.ppu.dot = 257)) = false := by rw [hl, hc.2]; rfl
      rw [if_pos (decide_eq_true hc), if_neg (by simpa using ht)]
      exact ⟨rfl, rfl, rfl, rfl, rfl, rfl, (if_pos hc).symm, (if_pos hc).symm, by rw [he]; rfl, by rw [he]; rfl,
        by rw [he, if_pos hc]; rfl⟩
    · simp only [hc, decide_false]
      split <;> exact .of_same hc (by omega) rfl

/-! ### The end of a dot (R331, R332, R360) -/

/-- The dots that write a pixel (R360). -/
def Ppu.visible (q : Ppu) : Bool := decide (0 ≤ q.scanline ∧ q.scanline ≤ 239 ∧ 1 ≤ q.dot ∧ q.dot ≤ 256)

/-- The compositor or `SetVblank`, which meet in no dot, and `Advance`, after the pipelines. -/
def finishDot (q : Ppu) : Ppu :=
  advance (if q.visible then composite q q.scanline.toNat q.dot
    else if q.scanline = 241 ∧ q.dot = 1 then setVblank q else q)

/-- A dot is the pipelines' part and then the end of the dot. -/
theorem ppuClock_eq (s : State) : ppuClock s = (rendered s).onPpu finishDot := by
  have kept := rendered_kept s
  have start : ppuClock s = (onlyIf s.ppu.visible (·.onPpu fun q => composite q s.ppu.scanline.toNat s.ppu.dot)
      (onlyIf (decide (s.ppu.scanline = 241 ∧ s.ppu.dot = 1)) (·.onPpu setVblank) (rendered s))).onPpu advance := rfl
  rw [start, onlyIf_onPpu, onlyIf_onPpu]
  have visible : (rendered s).ppu.visible = s.ppu.visible := by rw [Ppu.visible, kept.scanline, kept.dot, Ppu.visible]
  simp only [State.onPpu, finishDot, visible, kept.scanline, kept.dot]
  by_cases hv : s.ppu.scanline = 241 ∧ s.ppu.dot = 1
  · have hn : s.ppu.visible = false := by
      simp only [Ppu.visible, decide_eq_false_iff_not]
      omega
    simp only [hv, hn, decide_true, and_self, if_true, Bool.false_eq_true, if_false]
  · simp only [hv, decide_false, Bool.false_eq_true, if_false]

/-- The beam moves one dot along the line, from the last dot to the next line, from the last line to line -1 (R331). -/
theorem advance_eq (q : Ppu) : advance q = { q with
    dot := if q.dot + 1 = 341 then 0 else q.dot + 1
    scanline := if q.dot + 1 = 341 then (if q.scanline + 1 = 261 then -1 else q.scanline + 1) else q.scanline
    frameComplete := q.frameComplete || (decide (q.dot + 1 = 341) && decide (q.scanline + 1 = 261)) } := by
  unfold advance
  by_cases hd : q.dot + 1 = 341
  · by_cases hl : q.scanline + 1 = 261 <;> simp [hd, hl]
  · simp [hd]

/-- What the end of a dot changes, field by field. -/
theorem finishDot_eq (q : Ppu) : finishDot q = { q with
    vblank := decide (q.scanline = 241 ∧ q.dot = 1) || q.vblank
    nmiReq := q.nmiReq || (decide (q.scanline = 241 ∧ q.dot = 1) && q.enableNmi)
    spriteZeroHit := q.spriteZeroHit ||
      (q.visible && spriteZeroTest q (backgroundPixel q q.dot) (spritePixel q q.dot) q.dot)
    s0Rendering := if q.visible then (spritePixel q q.dot).from0 else q.s0Rendering
    fb := if q.visible then q.fb.write (fbIndex q.scanline.toNat (q.dot - 1))
      (paletteLookup q (mux (backgroundPixel q q.dot) (spritePixel q q.dot))) else q.fb
    scanline := (advance q).scanline
    dot := (advance q).dot
    frameComplete := (advance q).frameComplete } := by
  rw [finishDot, advance_eq, advance_eq q]
  by_cases hv : q.visible = true
  · have hn : ¬(q.scanline = 241 ∧ q.dot = 1) := by
      simp only [Ppu.visible, decide_eq_true_eq] at hv
      omega
    simp only [hv, hn, if_true, composite, decide_false, Bool.false_or, Bool.false_and, Bool.or_false, Bool.true_and]
  · have hv' := Bool.eq_false_of_not_eq_true hv
    by_cases h1 : q.scanline = 241 ∧ q.dot = 1
    · have here : decide (q.scanline = 241 ∧ q.dot = 1) = true := decide_eq_true h1
      rw [if_pos h1, here, hv']
      simp only [setVblank, if_false, Bool.false_eq_true, Bool.false_and, Bool.or_false, Bool.true_and, Bool.true_or]
    · simp only [hv', h1, if_false, Bool.false_eq_true, Bool.false_and, Bool.or_false, decide_false, Bool.false_or]

/-! ### The statements about single events -/

theorem rendered_clears {s : State} (hl : s.ppu.scanline = -1) (hd : s.ppu.dot = 1) :
    rendered s = s.onPpu clearFlags := by
  refine rendered_cases (motive := fun t => t = s.onPpu clearFlags) s (fun h => ?off) (fun _ hw => ?window)
    (fun _ h => ?evaluate) (fun _ h => ?nametable) (fun _ h => ?sprites) (fun _ _ => ?other)
  case off => exact absurd ⟨hl, hd⟩ (not_clears_of_off h)
  case other => simp [hl, hd]
  all_goals omega

/-- Settles O40: the pipelines clear at (-1, 1) (`rendered_kept`), the end of the dot sets at (241, 1) (`finishDot_eq`). -/
theorem verticalBlankEvents : Obligations.VerticalBlankEvents := by
  intro s q r
  have kept := rendered_kept s
  have enable : (rendered s).ppu.enableNmi = q.ctrl.getLsbD 7 := by rw [Ppu.enableNmi, (rendered_stage s).kept.ctrl]
  have hr : r = finishDot (rendered s).ppu := by simp only [r, ppuClock_eq, onPpu_ppu]
  rw [hr]
  refine ⟨?_, ?_, fun (hl : s.ppu.scanline = -1) (hd : s.ppu.dot = 1) => ?_⟩
  · rw [finishDot_eq]
    simp only [kept.scanline, kept.dot, kept.vblank]
    by_cases h : s.ppu.scanline = 241 ∧ s.ppu.dot = 1 <;> simp [q, h]
  · rw [finishDot_eq]
    simp only [kept.scanline, kept.dot, kept.nmiReq, enable, q]
  · have off : ¬(0 ≤ s.ppu.scanline ∧ s.ppu.scanline ≤ 239 ∧ 1 ≤ s.ppu.dot ∧ s.ppu.dot ≤ 256) := by omega
    have hv : (clearFlags s.ppu).visible = false := decide_eq_false off
    rw [rendered_clears hl hd, onPpu_ppu, finishDot_eq, hv]
    exact ⟨rfl, rfl, rfl⟩

/-- Where no stage has work the pipelines leave the machine as it is (R340). -/
theorem rendered_idle {s : State} (h : s.ppu.dot = 0 ∨ 240 ≤ s.ppu.scanline) : rendered s = s := by
  refine rendered_cases (motive := fun t => t = s) s (fun _ => rfl) (fun hl hw => ?_) (fun hl hd => ?_) (fun hl hd => ?_)
    (fun hl hd => ?_) (fun hl hd => ?_)
  all_goals simp only [Ppu.onLine, decide_eq_true_eq] at hl
  case refine_5 =>
    have h0 : s.ppu.dot = 0 := by omega
    simp [h0]
  all_goals omega

/-- Settles O41: no stage of the pipelines runs (`rendered_idle`), no pixel is drawn, and `SetVblank` is at (241, 1) alone. -/
theorem idlePositions : Obligations.IdlePositions := by
  refine ⟨fun s h hn => ?_, fun s hl hd => ?_⟩
  · have hv : s.ppu.visible = false := by
      simp only [Ppu.visible, decide_eq_false_iff_not]
      omega
    have e : ppuClock s = s.onPpu advance := by
      rw [ppuClock_eq, rendered_idle h, State.onPpu, State.onPpu, finishDot, hv, if_neg (by decide), if_neg hn]
    rw [e, State.onPpu, advance_eq]
  · have hv : s.ppu.visible = false := by
      simp only [Ppu.visible, decide_eq_false_iff_not]
      omega
    rw [ppuClock_eq, rendered_idle (.inr (by omega)), State.onPpu, finishDot, hv, if_neg (by decide), if_pos ⟨hl, hd⟩,
      advance_eq]
    simp [setVblank, hd, Ppu.enableNmi]

/-! ### The VRAM address over a dot (R351 to R354) -/

section
variable (q : Ppu)

/-- The scroll steps run on the rendered lines, with rendering enabled. -/
def Ppu.scrolls : Bool := q.onLine && q.rendering

/-- `v` after the step of coarse X, then of Y, then the reload of the horizontal and of the vertical fields. -/
def scrolledX : Loopy :=
  if q.scrolls && decide (q.dot % 8 = 0 ∧ (8 ≤ q.dot ∧ q.dot ≤ 256 ∨ 328 ≤ q.dot ∧ q.dot ≤ 336)) then nextCoarseX q.v
  else q.v

def scrolledY : Loopy := if q.scrolls && decide (q.dot = 256) then nextY (scrolledX q) else scrolledX q

def reloadedX : Loopy := if q.scrolls && decide (q.dot = 257) then copyX (scrolledY q) q.t else scrolledY q

def reloadedY : Loopy :=
  if q.scrolls && decide (q.scanline = -1 ∧ 280 ≤ q.dot ∧ q.dot ≤ 304) then copyY (reloadedX q) q.t else reloadedX q

end

theorem ite_and_decide_of_not {α : Type} {b : Bool} {P : Prop} [Decidable P] (h : ¬P) (x y : α) :
    (if b && decide P then x else y) = y := by
  simp [h]

/-- Dots 338 and 340 fetch a tile number without moving `v`. -/
theorem reloadedY_still {q : Ppu} (h : q.dot = 338 ∨ q.dot = 340) : reloadedY q = q.v := by
  rw [reloadedY, ite_and_decide_of_not (by omega), reloadedX, ite_and_decide_of_not (by omega), scrolledY,
    ite_and_decide_of_not (by omega), scrolledX, ite_and_decide_of_not (by omega)]

theorem rendering_of_kept {p q : Ppu} (h : PpuKept p q) : q.rendering = p.rendering := by
  unfold Ppu.rendering Ppu.renderBackground Ppu.renderSprites
  rw [h.mask]

theorem rendered_v (s : State) : (rendered s).ppu.v = reloadedY s.ppu := by
  refine rendered_cases (motive := fun t => t.ppu.v = reloadedY s.ppu) s (fun hl => ?off) (fun hl hw => ?window)
    (fun hl hd => ?evaluate) (fun hl hd => ?nametable) (fun hl hd => ?sprites) (fun hl hd => ?other)
  case off =>
    have still : s.ppu.scrolls = false := by rw [Ppu.scrolls, hl, Bool.false_and]
    simp [reloadedY, reloadedX, scrolledY, scrolledX, still]
  all_goals have on : s.ppu.scrolls = s.ppu.rendering := by rw [Ppu.scrolls, hl, Bool.true_and]
  case window =>
    have first : (fetchDot s.ppu.dot s).ppu.v = scrolledX s.ppu := by
      have phase : (s.ppu.dot % 8 = 0 ∧ (8 ≤ s.ppu.dot ∧ s.ppu.dot ≤ 256 ∨ 328 ≤ s.ppu.dot ∧ s.ppu.dot ≤ 336)) ↔
          (s.ppu.dot - 1) % 8 = 7 := by omega
      simp only [fetchDot_v, scrolledX, on, phase, Bool.and_eq_true, decide_eq_true_eq, and_comm]
    have last : reloadedY s.ppu = scrolledY s.ppu := by
      rw [reloadedY, ite_and_decide_of_not (by omega), reloadedX, ite_and_decide_of_not (by omega)]
    rw [last, onlyIf_onPpu, onPpu_ppu, scrolledY]
    by_cases h256 : s.ppu.dot = 256
    · have same := rendering_of_kept (fetchDot_left s.ppu.dot s).kept
      rw [if_pos (decide_eq_true h256), incrementY_eq, on, decide_eq_true h256, Bool.and_true, ← first]
      simp only [same]
    · rw [ite_and_decide_of_not h256, if_neg (by simpa using h256), first]
  case evaluate =>
    have before : scrolledY s.ppu = s.ppu.v := by
      rw [scrolledY, ite_and_decide_of_not (by omega), scrolledX, ite_and_decide_of_not (by omega)]
    have fetched : (fetchDot 257 s).ppu.v = s.ppu.v := by
      rw [fetchDot_v, if_neg fun h => absurd h.1 (by decide)]
    have kept := (fetchDot_left 257 s).kept.trans (loadBgShifters_kept _)
    have same : (loadBgShifters (fetchDot 257 s).ppu).rendering = s.ppu.rendering := rendering_of_kept kept
    have temporary : (loadBgShifters (fetchDot 257 s).ppu).t = s.ppu.t := kept.t
    rw [onPpu_ppu, spriteEvaluate_eq, transferX_eq, same, temporary, reloadedY, ite_and_decide_of_not (by omega), reloadedX, on,
      decide_eq_true hd, Bool.and_true, before, ← fetched]
    rfl
  case nametable =>
    rw [reloadedY_still (.inl hd)]
    rfl
  case sprites =>
    rw [reloadedY_still (.inr hd), show s.ppu.scanline = (fetchNametableByte s).ppu.scanline from rfl, spriteFetch_eq]
    rfl
  case other =>
    have before : reloadedX s.ppu = s.ppu.v := by
      rw [reloadedX, ite_and_decide_of_not (by omega), scrolledY, ite_and_decide_of_not (by omega), scrolledX,
        ite_and_decide_of_not (by omega)]
    rw [onlyIf_hook_ppu, onlyIf_onPpu, onlyIf_onPpu, onPpu_ppu, onPpu_ppu, transferY_eq, reloadedY, before, on]
    by_cases late : s.ppu.scanline = -1 ∧ 280 ≤ s.ppu.dot ∧ s.ppu.dot ≤ 304
    · rw [if_pos (decide_eq_true late), if_neg (by simp; omega), decide_eq_true late, Bool.and_true]
    · rw [if_neg (by simpa using late), ite_and_decide_of_not late]
      split <;> rfl

/-- `v` over a dot: the end of the dot leaves it. -/
theorem ppuClock_v (s : State) : (ppuClock s).ppu.v = (rendered s).ppu.v := by
  rw [ppuClock_eq, onPpu_ppu, finishDot_eq]

/-- Settles O44: the scroll steps position by position (`rendered_v`). -/
theorem vramAddressOverADot : Obligations.VramAddressOverADot := fun s => (ppuClock_v s).trans (rendered_v s)

end Sys2Proof.Machine
end

section
/-! PROOF. The pixel of a visible dot (R360 to R371) and sprite-zero-hit (R368): both are read off the shifters as the pipelines
leave them, which the end of the dot does not move. -/

namespace Sys2Proof.Machine

open Sys2Proof

theorem visible_iff (q : Ppu) :
    q.visible = true ↔ 0 ≤ q.scanline ∧ q.scanline ≤ 239 ∧ 1 ≤ q.dot ∧ q.dot ≤ 256 := decide_eq_true_iff

theorem rendered_visible (s : State) : (rendered s).ppu.visible = s.ppu.visible := by
  rw [Ppu.visible, (rendered_kept s).scanline, (rendered_kept s).dot, Ppu.visible]

/-- The pixel that a dot of column `d - 1` draws from `q` (R360, R363, R370). -/
def pixelOf (q : Ppu) (d : Nat) : BitVec 6 := paletteLookup q (mux (backgroundPixel q d) (spritePixel q d))

/-- The end of a dot changes nothing that the pixel is chosen from. -/
theorem pixelOf_finishDot (q : Ppu) (d : Nat) : pixelOf (finishDot q) d = pixelOf q d := by
  rw [finishDot_eq]
  rfl

theorem backgroundPixel_finishDot (q : Ppu) (d : Nat) : backgroundPixel (finishDot q) d = backgroundPixel q d := by
  rw [finishDot_eq]
  rfl

theorem spritePixel_finishDot (q : Ppu) (d : Nat) : spritePixel (finishDot q) d = spritePixel q d := by
  rw [finishDot_eq]
  rfl

/-- The framebuffer over a dot: one write on a visible dot, none on any other. -/
theorem ppuClock_fb (s : State) : (ppuClock s).ppu.fb =
    if s.ppu.visible then s.ppu.fb.write (fbIndex s.ppu.scanline.toNat (s.ppu.dot - 1))
      (pixelOf (ppuClock s).ppu s.ppu.dot) else s.ppu.fb := by
  have kept := rendered_kept s
  rw [ppuClock_eq, onPpu_ppu, pixelOf_finishDot, finishDot_eq]
  simp only [rendered_visible, kept.scanline, kept.dot, kept.fb]
  rfl

/-- With both layers off the pixel is the backdrop, cell 0 of the palette. -/
theorem pixelOf_disabled {q : Ppu} (hb : q.mask.getLsbD 3 = false) (hs : q.mask.getLsbD 4 = false) (d : Nat) :
    pixelOf q d = (q.pal.read 0 &&& (if q.mask.getLsbD 0 then 0x30#8 else 0x3F#8)).setWidth 6 := by
  have bg : backgroundPixel q d = ⟨0#2, 0#3⟩ := by
    rw [backgroundPixel, Ppu.renderBackground, hb]
    rfl
  have fg : spritePixel q d = SpritePix.clear := by
    rw [spritePixel, Ppu.renderSprites, hs]
    rfl
  rw [pixelOf, bg, fg]
  rfl

/-- Settles O46: a visible dot is one framebuffer write (`ppuClock_fb`), read back at its own index alone; the multiplexer's
table is its definition by cases. -/
theorem framebufferPixel : Obligations.FramebufferPixel := by
  refine ⟨fun s hs => ⟨fun hl hh hd hd' => ⟨fun y x hx => ?pixel, fun hb hp => ?disabled⟩, fun hn => ?none⟩,
    fun bg fg => ?table⟩
  case pixel =>
    rw [ppuClock_fb, if_pos ((visible_iff _).2 ⟨hl, hh, hd, hd'⟩), Mem.read_write hs.ppu.fb.1]
    have same : fbIndex y x = fbIndex s.ppu.scanline.toNat (s.ppu.dot - 1) ↔
        (y : Int) = s.ppu.scanline ∧ x + 1 = s.ppu.dot := by
      unfold fbIndex
      omega
    simp only [same]
    rfl
  case disabled =>
    have kept := (ppuClock_stage s).kept
    rw [ppuClock_fb, if_pos ((visible_iff _).2 ⟨hl, hh, hd, hd'⟩), Mem.read_write_same hs.ppu.fb.1,
      pixelOf_disabled (by rw [kept.mask]; exact hb) (by rw [kept.mask]; exact hp), kept.mask, kept.pal]
  case none =>
    rw [ppuClock_fb, if_neg fun h => hn ((visible_iff _).1 h)]
  case table =>
    unfold mux
    exact ⟨fun hb hf => by rw [if_pos hb, if_pos hf], fun hb hf => by rw [if_pos hb, if_neg hf],
      fun hb hf => by rw [if_neg hb, if_pos hf], fun hb hf => by rw [if_neg hb, if_neg hf]⟩

/-! ### Sprite-zero-hit (R368) -/

/-- An opaque background pixel needs its layer on and not hidden in the first eight columns. -/
theorem backgroundPixel_opaque {q : Ppu} {d : Nat} (h : (backgroundPixel q d).px ≠ 0#2) :
    q.mask.getLsbD 3 = true ∧ (q.mask.getLsbD 1 = true ∨ 9 ≤ d) := by
  unfold backgroundPixel at h
  split at h
  · rename_i hc
    simpa [Ppu.renderBackground, Ppu.backgroundLeft] using hc
  · exact absurd rfl h

theorem spritePixel_opaque {q : Ppu} {d : Nat} (h : (spritePixel q d).pix.px ≠ 0#2) :
    q.mask.getLsbD 4 = true ∧ (q.mask.getLsbD 2 = true ∨ 9 ≤ d) := by
  unfold spritePixel at h
  split at h
  · rename_i hc
    simpa [Ppu.renderSprites, Ppu.spritesLeft] using hc
  · exact absurd rfl h

/-- The flag over a dot: cleared at (-1, 1), set by the test on a visible dot, else kept. -/
theorem ppuClock_spriteZeroHit (s : State) : (ppuClock s).ppu.spriteZeroHit =
    ((if s.ppu.scanline = -1 ∧ s.ppu.dot = 1 then false else s.ppu.spriteZeroHit) ||
      (s.ppu.visible && spriteZeroTest s.ppu (backgroundPixel (ppuClock s).ppu s.ppu.dot)
        (spritePixel (ppuClock s).ppu s.ppu.dot) s.ppu.dot)) := by
  have kept := rendered_kept s
  rw [ppuClock_eq, onPpu_ppu, backgroundPixel_finishDot, spritePixel_finishDot, finishDot_eq]
  simp only [rendered_visible, kept.dot, kept.spriteZeroHit, spriteZeroTest, kept.s0Possible]
  by_cases hv : s.ppu.visible = true
  · have := ((visible_iff _).1 hv).2.2.2
    have hn : ¬ s.ppu.dot = 257 := by omega
    simp only [hn, decide_false, Bool.and_false, Bool.false_eq_true, if_false]
  · simp only [hv, Bool.false_and]

/-- Settles O47: the flag is `ppuClock_spriteZeroHit`; opaque pixels need their layers shown. -/
theorem spriteZeroHitWhen : Obligations.SpriteZeroHitWhen := by
  intro s q r
  have flag := ppuClock_spriteZeroHit s
  have mask : r.mask = q.mask := (ppuClock_stage s).kept.mask
  have hit (h : q.spriteZeroHit = false) : r.spriteZeroHit = true ↔
      0 ≤ q.scanline ∧ q.scanline ≤ 239 ∧ 1 ≤ q.dot ∧ q.dot ≤ 255 ∧ q.s0Possible = true ∧
        (backgroundPixel r q.dot).px ≠ 0#2 ∧ (spritePixel r q.dot).pix.px ≠ 0#2 ∧ (spritePixel r q.dot).from0 = true := by
    have flag' : r.spriteZeroHit = (q.visible && spriteZeroTest q (backgroundPixel r q.dot) (spritePixel r q.dot) q.dot) := by
      rw [show r.spriteZeroHit = _ from flag, show s.ppu.spriteZeroHit = false from h, ite_self, Bool.false_or]
    rw [flag', Bool.and_eq_true, visible_iff]
    simp only [spriteZeroTest, Bool.and_eq_true, decide_eq_true_eq]
    constructor
    · rintro ⟨⟨hl, hh, hd, hd'⟩, ⟨⟨⟨hb, hf⟩, h0⟩, hp⟩, hn⟩
      exact ⟨hl, hh, hd, by omega, hp, hb, hf, h0⟩
    · rintro ⟨hl, hh, hd, hd', hp, hb, hf, h0⟩
      exact ⟨⟨hl, hh, hd, by omega⟩, ⟨⟨⟨hb, hf⟩, h0⟩, hp⟩, by omega⟩
  refine ⟨fun h hn => ?_, hit, fun h hr => ?_⟩
  · rw [show r.spriteZeroHit = _ from flag, if_neg hn, show s.ppu.spriteZeroHit = true from h, Bool.true_or]
  · obtain ⟨-, -, -, -, -, hb, hf, -⟩ := (hit h).1 hr
    obtain ⟨on, left⟩ := backgroundPixel_opaque hb
    obtain ⟨on', left'⟩ := spritePixel_opaque hf
    rw [mask] at on left on' left'
    exact ⟨on, on', fun hd => ⟨left.resolve_right (by omega), left'.resolve_right (by omega)⟩⟩

end Sys2Proof.Machine
end

section
/-! PROOF. The Mapper and the background pipeline over a dot (R333, R345 to R350, R450, R455): the dot's reads in order, and what
each fetch loads. -/

namespace Sys2Proof.Machine

open Sys2Proof

/-! ### The Mapper -/

theorem inWindow_of {q : Ppu} (hl : q.onLine = true)
    (h : 2 ≤ q.dot ∧ q.dot ≤ 257 ∨ 321 ≤ q.dot ∧ q.dot ≤ 337) :
    q.inWindow = true := by
  rw [Ppu.inWindow, hl, decide_eq_true h]
  rfl

theorem inWindow_of_not {q : Ppu} (h : q.onLine = true → ¬(2 ≤ q.dot ∧ q.dot ≤ 257 ∨ 321 ≤ q.dot ∧ q.dot ≤ 337)) :
    q.inWindow = false := by
  unfold Ppu.inWindow
  cases hl : q.onLine with
  | false => rfl
  | true => rw [decide_eq_false (h hl)]; rfl

/-- In the fetch windows a dot reads what its phase reads. -/
theorem dotReads_of_window {q : Ppu} (hw : q.inWindow = true) (hd : 1 ≤ q.dot) : q.dotReads = phaseReads q q.dot := by
  have lt : q.dot % 8 < 8 := Nat.mod_lt _ (by decide)
  have off : ¬ q.dot = 338 ∧ ¬ q.dot = 340 := by
    simp only [Ppu.inWindow, Bool.and_eq_true, decide_eq_true_eq] at hw
    omega
  have phase : (q.dot - 1) % 8 = (q.dot % 8 + 7) % 8 := by omega
  simp only [Ppu.dotReads, phaseReads, hw, phase, off, Bool.true_and, decide_false, Bool.and_false]
  generalize q.dot % 8 = k at lt
  interval_cases k <;> rfl

theorem dotReads_338 {q : Ppu} (hl : q.onLine = true) (hd : q.dot = 338) : q.dotReads = [q.tileAt] := by
  simp [Ppu.dotReads, Ppu.inWindow, hl, hd]

theorem dotReads_340 {q : Ppu} (hl : q.onLine = true) (hd : q.dot = 340) :
    q.dotReads = q.tileAt :: q.spriteReads q.secCount := by
  simp [Ppu.dotReads, Ppu.inWindow, hl, hd]

theorem dotReads_none {q : Ppu} (h : q.onLine = true →
    ¬(2 ≤ q.dot ∧ q.dot ≤ 257 ∨ 321 ≤ q.dot ∧ q.dot ≤ 338 ∨ q.dot = 340)) : q.dotReads = [] := by
  have hw : q.inWindow = false := inWindow_of_not fun hl => by have := h hl; omega
  have h338 : (q.onLine && decide (q.dot = 338)) = false := by
    cases hl : q.onLine with
    | false => rfl
    | true => have := h hl; simp; omega
  have h340 : (q.onLine && decide (q.dot = 340)) = false := by
    cases hl : q.onLine with
    | false => rfl
    | true => have := h hl; simp; omega
  simp only [Ppu.dotReads, hw, h338, h340, Bool.false_and, Bool.false_eq_true, if_false]

/-- The dot at which id 4 counts (R333). -/
def Ppu.hooked (q : Ppu) : Bool := q.onLine && decide (q.dot = 260) && q.rendering

/-- The Mapper over a dot: the dot's reads in order, and the scanline hook, which falls in a dot without reads. -/
theorem rendered_mapper (s : State) : (rendered s).mapper =
    if s.ppu.hooked then (readsDone s s.ppu.dotReads).mapper.onScanline else (readsDone s s.ppu.dotReads).mapper := by
  refine rendered_cases (motive := fun t => t.mapper = _) s (fun hl => ?off) (fun hl hw => ?window)
    (fun hl hd => ?evaluate) (fun hl hd => ?nametable) (fun hl hd => ?sprites) (fun hl hd => ?other)
  case other =>
    rw [onlyIf_hook_mapper, onlyIf_onPpu, onlyIf_onPpu, onPpu_mapper, onPpu_mapper, dotReads_none fun _ => hd,
      Ppu.hooked, hl, Bool.true_and]
    rfl
  case off =>
    rw [Ppu.hooked, hl, dotReads_none (by simp [hl])]
    rfl
  all_goals have unhooked : s.ppu.hooked = false := by rw [Ppu.hooked, decide_eq_false (by omega)]; simp
  all_goals rw [unhooked, if_neg (by decide)]
  case window =>
    have hw' := inWindow_of hl (by omega : 2 ≤ s.ppu.dot ∧ s.ppu.dot ≤ 257 ∨ 321 ≤ s.ppu.dot ∧ s.ppu.dot ≤ 337)
    rw [onlyIf_onPpu, onPpu_mapper, fetchDot_mapper, dotReads_of_window hw' (by omega)]
  case evaluate =>
    rw [onPpu_mapper, fetchDot_mapper, dotReads_of_window (inWindow_of hl (by omega)) (by omega), hd]
  case nametable =>
    rw [fetchNametableByte_mapper, dotReads_338 hl hd]
    rfl
  case sprites =>
    rw [show s.ppu.scanline = (fetchNametableByte s).ppu.scanline from rfl, spriteFetch_eq, dotReads_340 hl hd,
      readsDone_eq, readsDone_eq, List.foldl_cons]
    dsimp only
    rw [fetchNametableByte_mapper]
    rfl

/-! ### Ids 4 and 9 -/

theorem readsDone_scanline {s : State} {r : ScanlineRegs} (h : s.mapper = .scanline r) (as : List PpuAddr) :
    (readsDone s as).mapper = .scanline r := by
  rw [readsDone_eq]
  induction as with
  | nil => exact h
  | cons a as ih => simpa only [List.foldl_cons, h, Mapper.afterPpuRead] using ih

/-- One read of id 9's Mapper: the latches follow it where there is CHR ROM (R455, log 10). An address at or above 0x2000
triggers nothing. -/
theorem latch_afterPpuRead (r : LatchRegs) (c : Cart) (a : PpuAddr) : (Mapper.latch r).afterPpuRead c a =
    .latch (if c.chrBanks = 0 then r else r.readAt a.toNat) := by
  by_cases h0 : c.chrBanks = 0
  · simp [Mapper.afterPpuRead, ppuMap_noChr _ h0, h0]
  · by_cases ha : a.toNat < 0x2000
    · simp [Mapper.afterPpuRead, ppuMap_chr _ h0 ha, h0, touch_eq]
    · have still : r.readAt a.toNat = r := by
        unfold LatchRegs.readAt
        rw [if_neg (by omega), if_neg (by omega), if_neg (by omega), if_neg (by omega)]
      simp [Mapper.afterPpuRead, ppuMap_above _ c (show 0x2000 ≤ a.toNat by omega), still]

theorem readsDone_latch {s : State} {r : LatchRegs} (h : s.mapper = .latch r) (as : List PpuAddr) :
    (readsDone s as).mapper =
      .latch (if s.cart.chrBanks = 0 then r else as.foldl (fun r a => r.readAt a.toNat) r) := by
  rw [readsDone_eq, h]
  dsimp only
  clear h
  induction as generalizing r with
  | nil => simp
  | cons a as ih =>
    rw [List.foldl_cons, latch_afterPpuRead, ih, List.foldl_cons]
    split <;> rfl

/-- Reads move the two latches only. -/
theorem readAts_only (r : LatchRegs) (as : List PpuAddr) :
    let t := as.foldl (fun r a => r.readAt a.toNat) r
    t = { r with latch0 := t.latch0, latch1 := t.latch1 } := by
  induction as generalizing r with
  | nil => rfl
  | cons a as ih => exact ih (r.readAt a.toNat)

theorem mapperOverDot (s : State) : MapperOverDot s (ppuClock s) := by
  have after : (ppuClock s).mapper =
      if s.ppu.hooked then (readsDone s s.ppu.dotReads).mapper.onScanline else (readsDone s s.ppu.dotReads).mapper := by
    rw [ppuClock_eq, onPpu_mapper, rendered_mapper]
  refine ⟨fun r h => ?scanline, fun r h => ?latch, fun h h' => (ppuClock_stage s).others h h'⟩
  case scanline =>
    intro hooked count
    have same : s.ppu.hooked = hooked := rfl
    rw [after, readsDone_scanline h, same]
    cases hooked with
    | false => simp
    | true => rfl
  case latch =>
    intro read
    have only : read = { r with latch0 := read.latch0, latch1 := read.latch1 } := readAts_only r _
    have unhooked : (ppuClock s).mapper = (readsDone s s.ppu.dotReads).mapper := by
      rw [after, readsDone_latch h]
      exact ite_self _
    rw [unhooked, readsDone_latch h]
    by_cases h0 : s.cart.chrBanks = 0
    · rw [if_pos h0, if_pos h0, if_pos h0]
    · rw [if_neg h0, if_neg h0, if_neg h0]
      exact congrArg Mapper.latch only

/-! ### The background -/

/-- The background's latches and shifters after a dot of the fetch windows. -/
def Background.fetched (s : State) : Background :=
  let b := (updateShifters s.ppu s.ppu.dot).background
  match (s.ppu.dot - 1) % 8 with
  | 0 => { b.load with nxId := ppuPeek s s.ppu.tileAt }
  | 2 => { b with nxAttr := s.ppu.attributeFrom (ppuPeek s s.ppu.attributeAt) }
  | 4 => { b with nxLo := ppuPeek s s.ppu.patternAt }
  | 6 => { b with nxHi := ppuPeek s (s.ppu.patternAt + 8#14) }
  | _ => b

theorem background_nametable (s : State) :
    (fetchNametableByte s).ppu.background = { s.ppu.background with nxId := ppuPeek s s.ppu.tileAt } := by
  rw [← tileAddr_eq]
  rfl

theorem rendered_background (s : State) : (rendered s).ppu.background =
    if s.ppu.inWindow then Background.fetched s
    else if s.ppu.onLine && decide (s.ppu.dot = 338 ∨ s.ppu.dot = 340) then
      { s.ppu.background with nxId := ppuPeek s s.ppu.tileAt }
    else s.ppu.background := by
  refine rendered_cases (motive := fun t => t.ppu.background = _) s (fun hl => ?off) (fun hl hw => ?window)
    (fun hl hd => ?evaluate) (fun hl hd => ?nametable) (fun hl hd => ?sprites) (fun hl hd => ?other)
  case off =>
    rw [inWindow_of_not (by simp [hl]), hl]
    rfl
  case window =>
    rw [if_pos (inWindow_of hl (by omega)), onlyIf_onPpu, onPpu_ppu]
    have fetched : (fetchDot s.ppu.dot s).ppu.background = Background.fetched s := background_fetchDot _ s
    split
    · rw [background_incrementY, fetched]
    · exact fetched
  case evaluate =>
    have fetched : (fetchDot 257 s).ppu.background = Background.fetched s := hd ▸ background_fetchDot _ s
    have phase : Background.fetched s =
        { (updateShifters s.ppu s.ppu.dot).background.load with nxId := ppuPeek s s.ppu.tileAt } := by
      simp only [Background.fetched, hd]
    rw [if_pos (inWindow_of hl (by omega)), onPpu_ppu, background_spriteEvaluate, background_transferX, background_load,
      fetched, phase]
    exact Background.load_load _ _
  case nametable =>
    rw [inWindow_of_not (by omega), background_nametable, hl, decide_eq_true (.inl hd)]
    rfl
  case sprites =>
    rw [inWindow_of_not (by omega), background_spriteFetch, background_nametable, hl, decide_eq_true (.inr hd)]
    rfl
  case other =>
    have n : ¬(s.ppu.dot = 338 ∨ s.ppu.dot = 340) := by omega
    rw [inWindow_of_not (by omega), onlyIf_hook_ppu, onlyIf_onPpu, onlyIf_onPpu, onPpu_ppu, onPpu_ppu,
      decide_eq_false n, Bool.and_false, if_neg Bool.false_ne_true, if_neg Bool.false_ne_true]
    split <;> split <;> simp only [background_transferY, background_clearFlags]

theorem attLow_toNat (x : BitVec 2) :
    (if x.getLsbD 0 then 0xFF#8 else 0x00#8).toNat = if x.toNat % 2 = 1 then 0xFF else 0 := by
  revert x
  decide

theorem attHigh_toNat (x : BitVec 2) :
    (if x.getLsbD 1 then 0xFF#8 else 0x00#8).toNat = if x.toNat / 2 = 1 then 0xFF else 0 := by
  revert x
  decide

/-- `LoadBgShifters` in integer arithmetic (R349). -/
theorem Background.load_eq (b : Background) : b.load = { b with
    patLo := BitVec.ofNat 16 (b.patLo.toNat / 256 * 256 + b.nxLo.toNat)
    patHi := BitVec.ofNat 16 (b.patHi.toNat / 256 * 256 + b.nxHi.toNat)
    attLo := BitVec.ofNat 16 (b.attLo.toNat / 256 * 256 + if b.nxAttr.toNat % 2 = 1 then 0xFF else 0)
    attHi := BitVec.ofNat 16 (b.attHi.toNat / 256 * 256 + if b.nxAttr.toNat / 2 = 1 then 0xFF else 0) } := by
  simp only [Background.load, loadLow_eq, attLow_toNat, attHigh_toNat]

theorem backgroundOverDot (s : State) : BackgroundOverDot s (ppuClock s).ppu := by
  have after : (ppuClock s).ppu.background = (rendered s).ppu.background := by
    rw [ppuClock_eq, onPpu_ppu, finishDot_eq]
    rfl
  rw [rendered_background] at after
  unfold BackgroundOverDot
  dsimp only
  rw [show (ppuClock s).ppu.nxId = _ from congrArg Background.nxId after,
    show (ppuClock s).ppu.nxAttr = _ from congrArg Background.nxAttr after,
    show (ppuClock s).ppu.nxLo = _ from congrArg Background.nxLo after,
    show (ppuClock s).ppu.nxHi = _ from congrArg Background.nxHi after,
    show (ppuClock s).ppu.shPatLo = _ from congrArg Background.patLo after,
    show (ppuClock s).ppu.shPatHi = _ from congrArg Background.patHi after,
    show (ppuClock s).ppu.shAttLo = _ from congrArg Background.attLo after,
    show (ppuClock s).ppu.shAttHi = _ from congrArg Background.attHi after]
  clear after
  cases hw : s.ppu.inWindow with
  | false =>
    simp only [Bool.false_and, Bool.false_or, Bool.false_eq_true, if_false]
    cases s.ppu.onLine && decide (s.ppu.dot = 338 ∨ s.ppu.dot = 340) <;> exact ⟨rfl, rfl, rfl, rfl, rfl, rfl, rfl, rfl⟩
  | true =>
    have window := hw
    simp only [Ppu.inWindow, Bool.and_eq_true, decide_eq_true_eq] at window
    have phase : (s.ppu.dot - 1) % 8 = (s.ppu.dot % 8 + 7) % 8 := by omega
    have tileless : ¬(s.ppu.dot = 338 ∨ s.ppu.dot = 340) := by omega
    have lt : s.ppu.dot % 8 < 8 := Nat.mod_lt _ (by decide)
    simp only [Background.fetched, phase, decide_eq_false tileless, Bool.true_and, Bool.and_false, Bool.or_false, if_true]
    generalize s.ppu.dot % 8 = k at lt
    rw [background_updateShifters]
    cases s.ppu.mask.getLsbD 3 <;> interval_cases k <;>
      simp [Background.load_eq, Ppu.background]

end Sys2Proof.Machine
end

section
/-! PROOF. The sprite slots over a dot (R350, R355, R356), their pattern addresses, the choice of the pixels (R361, R362), and a
dot as a whole (R330). -/

namespace Sys2Proof.Machine

open Sys2Proof

/-! ### The pattern address of a slot (R356) -/

/-- A pattern address is a table, a tile and a row of up to 16, side by side. -/
theorem patternField_toNat {c r : BitVec 14} (hc : c.toNat < 2) (x : Byte) (hr : r.toNat < 16) :
    (c <<< 12 ||| x.setWidth 14 <<< 4 ||| r).toNat = c.toNat * 0x1000 + x.toNat * 16 + r.toNat := by
  have hx := x.isLt
  have low := Nat.two_pow_add_eq_or_of_lt (i := 4) hr x.toNat
  have high := Nat.two_pow_add_eq_or_of_lt (i := 12) (show 2 ^ 4 * x.toNat + r.toNat < 2 ^ 12 by omega) c.toNat
  have table : (c <<< 12).toNat = 2 ^ 12 * c.toNat := by
    rw [BitVec.toNat_shiftLeft, Nat.shiftLeft_eq]
    omega
  have tile : (x.setWidth 14 <<< 4).toNat = 2 ^ 4 * x.toNat := by
    rw [BitVec.toNat_shiftLeft, Nat.shiftLeft_eq, BitVec.toNat_setWidth]
    omega
  rw [BitVec.or_assoc, BitVec.toNat_or, BitVec.toNat_or, table, tile, ← low, ← high]
  omega

/-- The row of a sprite that is in range. -/
theorem ofInt_row_toNat {x : Int} (h : 0 ≤ x) (h' : x.toNat ≤ 15) : (BitVec.ofInt 14 x).toNat = x.toNat := by
  rw [BitVec.toNat_ofInt]
  omega

theorem and_seven_toNat (r : BitVec 14) : (r &&& 7#14).toNat = r.toNat % 8 := by
  rw [BitVec.toNat_and]
  exact Nat.and_two_pow_sub_one_eq_mod r.toNat 3

theorem and_fe_toNat (x : Byte) : (x &&& 0xFE#8).toNat = x.toNat / 2 * 2 := by
  revert x
  decide

theorem and_one_toNat (x : Byte) : ((x &&& 1#8).setWidth 14).toNat = x.toNat % 2 := by
  revert x
  decide

theorem ofBool_table_toNat (b : Bool) : ((BitVec.ofBool b).setWidth 14).toNat * 0x1000 = if b then 0x1000 else 0 := by
  cases b <;> rfl

theorem spriteAddress (q : Ppu) : SpriteAddress q := by
  intro p row flip hy
  have nonneg : 0 ≤ q.scanline - (p.y.toNat : Int) := by omega
  refine ⟨fun hs hr => ?small, fun ht hr => ?tall⟩
  case small =>
    have table : ((BitVec.ofBool q.patternSprite).setWidth 14).toNat < 2 := by cases q.patternSprite <;> decide
    have small : q.tallSprites = false := hs
    have row14 : (BitVec.ofInt 14 (q.scanline - (p.y.toNat : Int))).toNat = row := ofInt_row_toNat nonneg (by omega)
    have line : (if flip then 7#14 - BitVec.ofInt 14 (q.scanline - (p.y.toNat : Int))
        else BitVec.ofInt 14 (q.scanline - (p.y.toNat : Int))).toNat = if flip then 7 - row else row := by
      cases hf : flip with
      | false => exact row14
      | true =>
        have : row ≤ 7 := by simpa [hf] using hr
        simp only [if_true, BitVec.toNat_sub, row14, BitVec.toNat_ofNat]
        omega
    have lt : (if flip then 7 - row else row) < 16 := by split <;> omega
    simp only [spriteAddr, small, Bool.false_eq_true, if_false]
    rw [patternField_toNat table p.id (by rw [line]; exact lt), line, ofBool_table_toNat]
    rfl
  case tall =>
    intro line
    have tall : q.tallSprites = true := ht
    have row14 : (BitVec.ofInt 14 (q.scanline - (p.y.toNat : Int))).toNat = row := ofInt_row_toNat nonneg hr
    have upper : decide (q.scanline - (p.y.toNat : Int) < 8) = decide (row < 8) := by
      rw [decide_eq_decide]
      omega
    have inner : (if flip then 7#14 - (BitVec.ofInt 14 (q.scanline - (p.y.toNat : Int)) &&& 7#14)
        else BitVec.ofInt 14 (q.scanline - (p.y.toNat : Int)) &&& 7#14).toNat = line % 8 := by
      have low := and_seven_toNat (BitVec.ofInt 14 (q.scanline - (p.y.toNat : Int)))
      rw [row14] at low
      cases hf : flip with
      | false => simpa [line, hf] using low
      | true =>
        simp only [if_true, BitVec.toNat_sub, low, BitVec.toNat_ofNat, line, hf]
        omega
    have tile : (if decide (row < 8) ^^ flip then p.id &&& 0xFE#8 else (p.id &&& 0xFE#8) + 1#8).toNat =
        p.id.toNat / 2 * 2 + line / 8 := by
      have even := and_fe_toNat p.id
      have := p.id.isLt
      by_cases hu : row < 8 <;> cases hf : flip <;>
        simp [hu, hf, line, even, BitVec.toNat_add] <;> omega
    have table : ((p.id &&& 1#8).setWidth 14).toNat < 2 := by
      rw [and_one_toNat]
      omega
    simp only [spriteAddr, tall, if_true, upper]
    rw [patternField_toNat table _ (by rw [inner]; omega), inner, tile, and_one_toNat]

/-! ### The choice of the pixels (R361, R362) -/

theorem pixel_eq (hi lo : Bool) : pixel hi lo = BitVec.ofNat 2 (2 * bitNat hi + bitNat lo) := by
  cases hi <;> cases lo <;> rfl

theorem pixel_setWidth_eq (hi lo : Bool) : (pixel hi lo).setWidth 3 = BitVec.ofNat 3 (2 * bitNat hi + bitNat lo) := by
  cases hi <;> cases lo <;> rfl

/-- A sprite's palette is one of the upper four. -/
theorem spritePalette_eq (x : Byte) : (x.setWidth 2).setWidth 3 + 4#3 = BitVec.ofNat 3 (x.toNat % 4 + 4) := by
  revert x
  decide

theorem pixelChoice (q : Ppu) (d : Nat) : PixelChoice q d := by
  unfold PixelChoice
  dsimp only
  simp only [← pixel_eq, ← pixel_setWidth_eq, ← spritePalette_eq]
  refine ⟨rfl, fun off => if_neg (ne_true_of_eq_false off), fun on none => ?_, fun on i p hi hp shows before => ?_⟩
  · exact (if_pos on).trans (firstOpaque_none _ _ 0 none)
  · refine ((if_pos on).trans (firstOpaque_some _ _ 0 i p hi hp shows before)).trans ?_
    rw [Nat.zero_add, Bool.decide_eq_false]
    rfl

/-! ### The slots over a dot -/

theorem Sprite.tick_eq (p : Sprite) : p.tick =
    if p.x = 0#8 then { p with lo := BitVec.ofNat 8 (2 * p.lo.toNat), hi := BitVec.ofNat 8 (2 * p.hi.toNat) }
    else { p with x := BitVec.ofNat 8 (p.x.toNat - 1) } := by
  unfold Sprite.tick
  split
  · rw [shiftLeft_one_eq, shiftLeft_one_eq]
  · rename_i h
    have : p.x - 1#8 = BitVec.ofNat 8 (p.x.toNat - 1) := by
      have := p.x.isLt
      apply BitVec.eq_of_toNat_eq
      simp only [BitVec.toNat_sub, BitVec.toNat_ofNat]
      have : p.x.toNat ≠ 0 := fun e => h (BitVec.eq_of_toNat_eq e)
      omega
    rw [this]

/-- Slot `i` after a dot that neither evaluates nor clears the shifters (R350, R356). -/
def slotOverDot (s : State) (i : Nat) (p : Sprite) : Sprite :=
  if s.ppu.secCount ≤ i then p
  else if s.ppu.inWindow && decide (s.ppu.dot ≤ 256) && s.ppu.mask.getLsbD 4 then p.tick
  else if s.ppu.onLine && decide (s.ppu.dot = 340) then fetchedSprite (fetchNametableByte s) i p
  else p

theorem mapIdx_slotOverDot_still {s : State} (hw : (s.ppu.inWindow && decide (s.ppu.dot ≤ 256) && s.ppu.mask.getLsbD 4) = false)
    (hf : (s.ppu.onLine && decide (s.ppu.dot = 340)) = false) :
    s.ppu.sprites.mapIdx (slotOverDot s) = s.ppu.sprites := by
  have still : slotOverDot s = fun _ p => p := by
    funext i p
    simp only [slotOverDot, hw, hf, Bool.false_eq_true, if_false, ite_self]
  rw [still, mapIdx_same]

theorem rendered_sprites (s : State) : (rendered s).ppu.sprites =
    if s.ppu.onLine && decide (s.ppu.dot = 257) then (spriteEvaluate s.ppu.scanline s.ppu).sprites
    else if s.ppu.scanline = -1 ∧ s.ppu.dot = 1 then s.ppu.sprites.map fun p => { p with lo := 0#8, hi := 0#8 }
    else s.ppu.sprites.mapIdx (slotOverDot s) := by
  refine rendered_cases (motive := fun t => t.ppu.sprites = _) s (fun hl => ?off) (fun hl hw => ?window)
    (fun hl hd => ?evaluate) (fun hl hd => ?nametable) (fun hl hd => ?sprites) (fun hl hd => ?other)
  case off =>
    rw [hl, Bool.false_and, if_neg Bool.false_ne_true, if_neg (not_clears_of_off hl), mapIdx_slotOverDot_still]
    · rw [inWindow_of_not (by simp [hl])]
      rfl
    · rw [hl, Bool.false_and]
  case evaluate =>
    obtain ⟨_, _, _, _, _, _, _, _, _, _, e⟩ := fetchDot_only 257 s
    rw [hl, decide_eq_true hd, Bool.and_true, if_pos rfl, e, onPpu_ppu, spriteEvaluate_eq, transferX_eq, spriteEvaluate_eq]
    rfl
  all_goals rw [decide_eq_false (by omega : ¬ s.ppu.dot = 257), Bool.and_false, if_neg Bool.false_ne_true]
  case window =>
    obtain ⟨_, _, _, _, _, _, _, _, _, _, e⟩ := fetchDot_only s.ppu.dot s
    have moved : (onlyIf (decide (s.ppu.dot = 256)) (·.onPpu incrementY) (fetchDot s.ppu.dot s)).ppu.sprites =
        if s.ppu.renderSprites && decide (s.ppu.dot ≤ 257) then tickSprites s.ppu.secCount s.ppu.sprites
        else s.ppu.sprites := by
      rw [onlyIf_onPpu, onPpu_ppu, incrementY_eq, e]
      split <;> rfl
    have window : (s.ppu.inWindow && decide (s.ppu.dot ≤ 256) && s.ppu.mask.getLsbD 4) =
        (s.ppu.renderSprites && decide (s.ppu.dot ≤ 257)) := by
      have same : s.ppu.dot ≤ 256 ↔ s.ppu.dot ≤ 257 := by omega
      rw [inWindow_of hl (by omega), Bool.true_and, Bool.and_comm, decide_eq_decide.2 same]
      rfl
    have unclear : ¬(s.ppu.scanline = -1 ∧ s.ppu.dot = 1) := by omega
    rw [moved, if_neg unclear]
    cases on : s.ppu.renderSprites && decide (s.ppu.dot ≤ 257) with
    | false => exact (mapIdx_slotOverDot_still (window.trans on) (by simp; omega)).symm
    | true =>
      have slot : slotOverDot s = fun i p => if i < s.ppu.secCount then p.tick else p := by
        funext i p
        rw [slotOverDot, window, on, if_pos rfl]
        simp only [← not_lt, ite_not]
      rw [if_pos rfl, tickSprites_eq, slot]
  case nametable =>
    rw [if_neg (by omega), mapIdx_slotOverDot_still]
    · rfl
    · rw [inWindow_of_not (by omega)]
      rfl
    · rw [decide_eq_false (by omega), Bool.and_false]
  case sprites =>
    have slot : slotOverDot s = fun i p => if i < s.ppu.secCount then fetchedSprite (fetchNametableByte s) i p else p := by
      funext i p
      rw [slotOverDot, inWindow_of_not (by omega), hl, decide_eq_true hd]
      simp only [← not_lt, ite_not]
      rfl
    rw [if_neg (by omega), slot, show s.ppu.scanline = (fetchNametableByte s).ppu.scanline from rfl, spriteFetch_eq]
    rfl
  case other =>
    have still := mapIdx_slotOverDot_still (s := s) (by rw [inWindow_of_not (by omega)]; rfl)
      (by rw [decide_eq_false (by omega), Bool.and_false])
    rw [onlyIf_hook_ppu, onlyIf_onPpu, onlyIf_onPpu, onPpu_ppu, onPpu_ppu, transferY_eq, still]
    by_cases hc : s.ppu.scanline = -1 ∧ s.ppu.dot = 1
    · rw [if_pos hc, if_pos (decide_eq_true hc)]
      split <;> rfl
    · rw [if_neg hc, decide_eq_false hc, if_neg Bool.false_ne_true]
      split <;> rfl

theorem fetchedSprite_nametable (s : State) (i : Nat) (p : Sprite) :
    let u := readsDone s (s.ppu.tileAt :: s.ppu.spriteReads i)
    let plane := fun b : Byte => if p.attr.getLsbD 6 then b.reverse else b
    fetchedSprite (fetchNametableByte s) i p =
      { p with lo := plane (ppuPeek u (s.ppu.spriteAt i))
               hi := plane (ppuPeek (ppuTouch u (s.ppu.spriteAt i)) (s.ppu.spriteAt i + 8#14)) } := by
  intro u plane
  have reads : readsDone (fetchNametableByte s) (s.ppu.spriteReads i) =
      { u with ppu := (fetchNametableByte s).ppu } := by
    simp only [u, readsDone_eq, List.foldl_cons, fetchNametableByte_mapper]
    rfl
  have same : u.ppu = s.ppu := by simp only [u, readsDone_eq]
  have kept : PpuKept u.ppu (fetchNametableByte s).ppu := same ▸ (fetchNametableByte_left s).kept
  have lo := ppuPeek_withPpu u kept (s.ppu.spriteAt i)
  have hi := ppuPeek_withPpu (ppuTouch u (s.ppu.spriteAt i)) kept (s.ppu.spriteAt i + 8#14)
  rw [← lo, ← hi, fetchedSprite, show (fetchNametableByte s).ppu.spriteReads i = s.ppu.spriteReads i from rfl, reads]
  rfl

theorem spritesOverDot (s : State) : SpritesOverDot s (ppuClock s).ppu := by
  have kept := rendered_kept s
  have after : (ppuClock s).ppu = finishDot (rendered s).ppu := by rw [ppuClock_eq, onPpu_ppu]
  have slots : (ppuClock s).ppu.sprites = (rendered s).ppu.sprites := by rw [after, finishDot_eq]
  refine ⟨?_, ?_, ?_, ?_, spriteAddress _, ?_⟩
  · rw [after, finishDot_eq]
    exact kept.secCount
  · rw [after, finishDot_eq]
    exact kept.s0Possible
  · rw [after, finishDot_eq]
    exact kept.spriteOverflow
  · rw [after, spritePixel_finishDot, finishDot_eq]
    simp only [rendered_visible, kept.dot, kept.s0Rendering, visible_iff]
  · rw [slots, rendered_sprites]
    have slot : slotOverDot s = _ := funext fun i => funext fun p => by
      rw [slotOverDot, Sprite.tick_eq, fetchedSprite_nametable]
    rw [slot]

/-! ### A dot as a whole -/

theorem PpuKept.eq {p q : Ppu} (h : PpuKept p q) : q = { q with
    ctrl := p.ctrl, mask := p.mask, w := p.w, t := p.t, fx := p.fx, oamaddr := p.oamaddr, rdbuf := p.rdbuf, nt := p.nt
    pal := p.pal, chrRam := p.chrRam, oam := p.oam } := by
  rw [← h.ctrl, ← h.mask, ← h.w, ← h.t, ← h.fx, ← h.oamaddr, ← h.rdbuf, ← h.nt, ← h.pal, ← h.chrRam, ← h.oam]

/-- Settles O42: what a dot leaves alone is `ppuClock_stage`; the Mapper, the background and the slots go by position. -/
theorem dotFrame : Obligations.DotFrame := by
  refine ⟨fun s => ?_, fun q => ⟨spriteAddress q, pixelChoice q⟩⟩
  have stage := ppuClock_stage s
  exact ⟨stage.only, stage.kept.eq, stage.maps s.cart s.mapperRam, mapperOverDot s, backgroundOverDot s, spritesOverDot s⟩

end Sys2Proof.Machine
end

section
/-! PROOF. Ticks: only the dot moves the beam, so that every frame has the same length (R331, R380); what the CPU slot does
(R382); and the seven cycles after reset (R512, R531). -/

namespace Sys2Proof.Machine

open Sys2Proof

/-! ### Nothing but the dot moves the beam -/

/-- The beam's position and `frame_complete` are the same. -/
structure BeamKept (p q : Ppu) : Prop where
  scanline : q.scanline = p.scanline
  dot : q.dot = p.dot
  frameComplete : q.frameComplete = p.frameComplete

theorem BeamKept.refl (p : Ppu) : BeamKept p p := ⟨rfl, rfl, rfl⟩

theorem BeamKept.trans {p q r : Ppu} (h : BeamKept p q) (h' : BeamKept q r) : BeamKept p r :=
  ⟨h'.scanline.trans h.scanline, h'.dot.trans h.dot, h'.frameComplete.trans h.frameComplete⟩

theorem BeamKept.of_eq {p q : Ppu} (h : q = p) : BeamKept p q := h ▸ .refl p

theorem ReadLeft.beamKept {s t : State} (h : ReadLeft s t) : BeamKept s.ppu t.ppu := by
  obtain ⟨v, w, vb, oa, rb, hp⟩ := h.ppu
  rw [hp]
  exact ⟨rfl, rfl, rfl⟩

theorem ppuWrite_beamKept (s : State) (a : PpuAddr) (d : Byte) : BeamKept s.ppu (ppuWrite s a d).ppu := by
  unfold ppuWrite
  split_ifs <;> exact ⟨rfl, rfl, rfl⟩

theorem ppuPortWrite_beamKept (s : State) (n : Nat) (d : Byte) : BeamKept s.ppu (ppuPortWrite s n d).ppu := by
  unfold ppuPortWrite
  split
  case h_5 => unfold scrollWrite; split <;> exact ⟨rfl, rfl, rfl⟩
  case h_6 => unfold addressWrite; split <;> exact ⟨rfl, rfl, rfl⟩
  case h_7 => exact (ppuWrite_beamKept s _ d).trans ⟨rfl, rfl, rfl⟩
  all_goals exact ⟨rfl, rfl, rfl⟩

theorem busWrite_beamKept (s : State) (a : Addr) (d : Byte) : BeamKept s.ppu (busWrite s a d).ppu := by
  rcases busWrite_cases s a d with
    ⟨-, h⟩ | ⟨-, h, -⟩ | ⟨-, h⟩ | ⟨-, h⟩ | ⟨-, h⟩ | ⟨-, -, h⟩ | ⟨-, h⟩ | ⟨-, -, -, -, -, h⟩ <;> rw [h]
  case inr.inl => exact ppuPortWrite_beamKept s _ d
  all_goals exact .refl _

theorem CpuActs.beamKept {s t : State} (h : CpuActs s t) : BeamKept s.ppu t.ppu := by
  induction h with
  | refl => exact .refl _
  | regs _ hu _ ih => exact ih.trans (by rw [hu]; exact .refl _)
  | read _ a ih => exact ih.trans (busRead_left _ a).beamKept
  | write _ a v ih => exact ih.trans (busWrite_beamKept _ a v)

theorem afterProductive_ppu (s : State) : (afterProductive s).ppu = s.ppu := by rw [sameOutsideCpu_afterProductive s]

theorem cpuClock_beamKept {s t : State} (h : cpuClock s = .next t) : BeamKept s.ppu t.ppu := by
  unfold cpuClock at h
  split_ifs at h
  · cases h
    exact .refl _
  · obtain ⟨u, hu, rfl⟩ := exists_of_thenNext h
    exact (CpuActs.executeInstruction hu).beamKept.trans (.of_eq (afterProductive_ppu u))
  · cases h
    exact .refl _

theorem dmaStep_beamKept (s : State) : BeamKept s.ppu (dmaStep s).ppu := by
  unfold dmaStep
  split_ifs
  · exact .refl _
  · exact .refl _
  · exact (busRead_left s s.dma.source).beamKept
  · exact ⟨rfl, rfl, rfl⟩

theorem cpuSlot_beamKept {s t : State} (h : cpuSlot s = .next t) : BeamKept s.ppu t.ppu := by
  unfold cpuSlot at h
  split_ifs at h
  · cases h
    exact dmaStep_beamKept s
  · exact cpuClock_beamKept h
  · cases h
    exact .refl _

theorem pollNmi_beamKept (s : State) : BeamKept s.ppu (pollNmi s).ppu := by
  unfold pollNmi
  split
  · rw [cpuNmi_onlyRam]
    exact ⟨rfl, rfl, rfl⟩
  · exact .refl _

theorem pollIrq_beamKept (s : State) : BeamKept s.ppu (pollIrq s).ppu := by
  unfold pollIrq
  split
  · rw [cpuIrq_onlyRam]
    exact .refl _
  · exact .refl _

theorem endTick_beamKept (s : State) : BeamKept s.ppu (endTick s).ppu :=
  (pollNmi_beamKept s).trans (pollIrq_beamKept _)

theorem step_beamKept {s t : State} (h : step s = .next t) : BeamKept (ppuClock s).ppu t.ppu := by
  obtain ⟨u, hu, rfl⟩ := exists_of_thenNext h
  exact (cpuSlot_beamKept hu).trans (endTick_beamKept u)

/-! ### The frame (R331) -/

theorem BeamKept.advance {p q : Ppu} (h : BeamKept p q) : BeamKept (Machine.advance p) (Machine.advance q) := by
  rw [advance_eq p, advance_eq q, h.scanline, h.dot, h.frameComplete]
  exact ⟨rfl, rfl, rfl⟩

/-- The dot advances the beam whatever it renders. -/
theorem ppuClock_beamKept (s : State) : BeamKept (advance s.ppu) (ppuClock s).ppu := by
  have kept := rendered_kept s
  have moved : BeamKept (advance (rendered s).ppu) (ppuClock s).ppu := by
    rw [ppuClock_eq, onPpu_ppu, finishDot_eq]
    exact ⟨rfl, rfl, rfl⟩
  exact (BeamKept.advance ⟨kept.scanline, kept.dot, kept.frameComplete⟩).trans moved

/-- The beam is on its grid of 262 lines of 341 dots. -/
structure Ppu.OnGrid (q : Ppu) : Prop where
  first : -1 ≤ q.scanline
  last : q.scanline ≤ 260
  dot : q.dot ≤ 340

theorem beam_lt {q : Ppu} (h : q.OnGrid) : q.beam < 89342 := by
  obtain ⟨first, last, dot⟩ := h
  unfold Ppu.beam
  omega

/-- One tick: one place further on the grid, and the frame is complete where it wraps. -/
theorem step_beam {s t : State} (hg : s.ppu.OnGrid) (h : step s = .next t) :
    t.ppu.OnGrid ∧ t.ppu.beam = (s.ppu.beam + 1) % 89342 ∧
      t.ppu.frameComplete = (s.ppu.frameComplete || decide (89342 ≤ s.ppu.beam + 1)) := by
  obtain ⟨first, last, dot⟩ := hg
  obtain ⟨line, column, complete⟩ := (ppuClock_beamKept s).trans (step_beamKept h)
  rw [advance_eq] at line column complete
  dsimp only at line column complete
  refine ⟨⟨?_, ?_, ?_⟩, ?_, ?_⟩
  · rw [line]
    split_ifs <;> omega
  · rw [line]
    split_ifs <;> omega
  · rw [column]
    split_ifs <;> omega
  · unfold Ppu.beam
    rw [line, column]
    split_ifs <;> omega
  · rw [complete, ← Bool.decide_and, decide_eq_decide.2]
    unfold Ppu.beam
    omega

theorem run_succ {M : Host.Core} {s u : M.State} (h : M.step s = .next u) (n : Nat) : M.run (n + 1) s = M.run n u := by
  rw [Host.Core.run, h]

/-- Settles O39: by induction on the ticks, each of which moves the beam one place (`step_beam`). -/
theorem frameOfTicks : Obligations.FrameOfTicks := by
  intro n
  induction n with
  | zero =>
    intro s first last dot
    have lt := beam_lt ⟨first, last, dot⟩
    exact ⟨s, rfl, (Nat.mod_eq_of_lt lt).symm, by simp [lt], first, last, dot⟩
  | succ n ih =>
    intro s first last dot
    obtain ⟨u, hu⟩ := exists_step s
    obtain ⟨⟨first', last', dot'⟩, beam, complete⟩ := step_beam ⟨first, last, dot⟩ hu
    obtain ⟨t, run, beam', complete', grid⟩ := ih u first' last' dot'
    have lt := beam_lt ⟨first, last, dot⟩
    refine ⟨t, (run_succ (M := Sys2Proof.core) hu n).trans run, ?_, ?_, grid⟩
    · rw [beam', beam, Nat.mod_add_mod, Nat.add_right_comm, Nat.add_assoc]
    · rw [complete', complete, beam, Bool.or_assoc, ← Bool.decide_or, decide_eq_decide.2]
      omega

/-! ### The CPU slot (R380 to R382) -/

/-- A slot of the DMA engine raises no request and does not count the tick. -/
theorem dmaStep_left (s : State) : (dmaStep s).ppu.nmiReq = s.ppu.nmiReq ∧
    (dmaStep s).mapper.irqPending = s.mapper.irqPending ∧ (dmaStep s).tick = s.tick := by
  unfold dmaStep
  split_ifs
  · exact ⟨rfl, rfl, rfl⟩
  · exact ⟨rfl, rfl, rfl⟩
  · have left := busRead_left s s.dma.source
    obtain ⟨v, w, vb, oa, rb, hp⟩ := left.ppu
    exact ⟨(congrArg Ppu.nmiReq hp).trans rfl, left.irq, left.tick⟩
  · exact ⟨rfl, rfl, rfl⟩

/-- Settles O54: the slot's branches, and an end of the tick with no request (`endTick_of_none`). -/
theorem cpuSlots : Obligations.CpuSlots := by
  intro s u hn hi
  have hu : u = { s with ppu := u.ppu, mapper := u.mapper } := (ppuClock_stage s).only
  have tick : u.tick = s.tick := by rw [hu]
  have dma : u.dma = s.dma := by rw [hu]
  have cpu : u.cpu = s.cpu := by rw [hu]
  have stepped {t : State} (ht : cpuSlot u = .next t) (hn' : t.ppu.nmiReq = false) (hi' : t.mapper.irqPending = false)
      (hk : t.tick = s.tick) : step s = .next { t with tick := s.tick + 1 } := by
    rw [step, busClock, show cpuSlot (ppuClock s) = .next t from ht, thenNext, endTick_of_none hn' hi', hk]
  refine ⟨fun h3 => ?idle, fun h3 ha => ⟨?transfer, (dmaStep_cpu u).trans cpu⟩, fun h3 ha hh => ?halted,
    fun h3 ha hr hc => ?owed⟩
  case idle =>
    refine stepped ?_ hn hi tick
    rw [cpuSlot, tick, if_neg h3]
  case transfer =>
    have slot := dmaStep_left u
    refine stepped ?_ (slot.1.trans hn) (slot.2.1.trans hi) (slot.2.2.trans tick)
    rw [cpuSlot, tick, dma, if_pos h3, if_pos ha]
  all_goals have slot : cpuSlot u = cpuClock u := by rw [cpuSlot, tick, dma, if_pos h3, ha, if_neg Bool.false_ne_true]
  case halted =>
    refine stepped (slot.trans ?_) hn hi tick
    exact cpuClock_of_halted (cpu ▸ hh)
  case owed =>
    have counted : cpuClock u = .next (u.setCyc (u.cpu.cyc - 1)) := by
      rw [cpuClock, cpu, hr, if_neg Bool.false_ne_true, if_neg (by omega)]
    rw [stepped (slot.trans counted) hn hi tick, ← cpu]
    rfl

/-! ### The seven cycles after reset (R512, R531) -/

/-- Where the scanline hook does not fall, no Mapper raises its request in a dot. -/
theorem ppuClock_irqPending {s : State} (h : s.ppu.dot ≠ 260) : (ppuClock s).mapper.irqPending = s.mapper.irqPending := by
  obtain ⟨scanline, latch, others⟩ := mapperOverDot s
  cases hm : s.mapper
  case scanline r =>
    rw [scanline r hm, decide_eq_false h]
    simp [Mapper.irqPending]
  case latch r =>
    rw [latch r hm]
    rfl
  all_goals rw [others (by simp [hm]) (by simp [hm]), hm]

/-- `t` is `r`, `k` ticks after the reset that gave `r`: the count has gone down once in three ticks, the beam is at dot `k`
of line 0, and no request is pending. -/
structure CountingDown (r t : State) (k : Nat) : Prop where
  only : t = { r with cpu := { r.cpu with cyc := 7 - (k + 2) / 3 }, tick := k, ppu := t.ppu, mapper := t.mapper }
  kept : PpuKept r.ppu t.ppu
  maps : ∀ c ram a, t.mapper.cpuMapRead c ram a = r.mapper.cpuMapRead c ram a
  scanline : t.ppu.scanline = 0
  dot : t.ppu.dot = k
  nmiReq : t.ppu.nmiReq = false
  irqPending : t.mapper.irqPending = false

/-- One tick of the count, which needs no instruction. -/
theorem CountingDown.step {r t : State} {k : Nat} (h : CountingDown r t k) (hk : k < 21) (hd : r.dma.active = false)
    (hr : r.cpu.halted = false) : ∃ u, Machine.step t = .next u ∧ CountingDown r u (k + 1) := by
  have tick : t.tick = k := by rw [h.only]
  have dma : t.dma.active = false := by rw [h.only]; exact hd
  have cpu : t.cpu = { r.cpu with cyc := 7 - (k + 2) / 3 } := by rw [h.only]
  have stage := ppuClock_stage t
  obtain ⟨line, column, -⟩ := ppuClock_beamKept t
  rw [advance_eq] at line column
  dsimp only at line column
  rw [h.dot, if_neg (by omega)] at line column
  have nmi : (ppuClock t).ppu.nmiReq = false := by
    have off : decide (t.ppu.scanline = 241 ∧ t.ppu.dot = 1) = false := by simp [h.scanline]
    rw [(verticalBlankEvents t).2.1, h.nmiReq, off]
    rfl
  have irq : (ppuClock t).mapper.irqPending = false := (ppuClock_irqPending (by rw [h.dot]; omega)).trans h.irqPending
  have counted : Machine.step t = .next { ppuClock t with cpu := { r.cpu with cyc := 7 - (k + 3) / 3 }, tick := k + 1 } := by
    obtain ⟨idle, -, -, owed⟩ := cpuSlots t nmi irq
    by_cases h3 : k % 3 = 0
    · have count : 7 - (k + 2) / 3 - 1 = 7 - (k + 3) / 3 := by omega
      rw [owed (by rwa [tick]) dma (by rw [cpu]; exact hr) (by rw [cpu]; simp only; omega), tick, cpu, count]
    · have count : 7 - (k + 2) / 3 = 7 - (k + 3) / 3 := by omega
      rw [idle (by rwa [tick]), tick, ← count, ← cpu, ← ppuClock_cpu t]
  refine ⟨_, counted, ?_, h.kept.trans stage.kept, fun c ram a => (stage.maps c ram a).trans (h.maps c ram a),
    line.trans h.scanline, column, nmi, irq⟩
  rw [stage.only, h.only]

theorem CountingDown.run {r : State} (hd : r.dma.active = false) (hr : r.cpu.halted = false) {n k : Nat} {t : State}
    (h : CountingDown r t k) (hn : k + n = 21) :
    ∃ u, Host.Core.run Sys2Proof.core n t = .next u ∧ CountingDown r u 21 := by
  induction n generalizing k t with
  | zero => exact ⟨t, rfl, by obtain rfl : k = 21 := hn; exact h⟩
  | succ n ih =>
    obtain ⟨u, hu, counted⟩ := h.step (by omega) hd hr
    obtain ⟨v, hv, done⟩ := ih counted (by omega)
    exact ⟨v, (run_succ (M := Sys2Proof.core) hu n).trans hv, done⟩

/-- A query sees of the Mapper what it maps. -/
theorem busPeek_setMapper (s : State) {m : Mapper} (h : ∀ c ram a, m.cpuMapRead c ram a = s.mapper.cpuMapRead c ram a)
    {a : Addr} (ha : isDevice a = false) : busPeek { s with mapper := m } a = busPeek s a := by
  simp only [isDevice, Bool.or_eq_false_iff, decide_eq_false_iff_not] at ha
  have e : cartCpuRead { s with mapper := m } a = cartCpuRead s a := by simp only [cartCpuRead, h]
  simp only [busPeek, e]
  split
  · rfl
  · split_ifs
    · rfl
    · omega
    · rfl
    · rfl
    · rfl

theorem irqPending_reset (m : Mapper) (hdr : HdrMirroring) : (m.reset hdr).irqPending = false := by cases m <;> rfl

/-- Settles O57: 21 ticks of the count (`CountingDown.run`). -/
theorem firstInstructionAfterReset : Obligations.FirstInstructionAfterReset := by
  intro s
  have start : CountingDown (busReset s) (busReset s) 0 := by
    rw [busReset_eq]
    exact ⟨rfl, .refl _, fun _ _ _ => rfl, rfl, rfl, rfl, irqPending_reset _ _⟩
  have hd : (busReset s).dma.active = false := by rw [busReset_eq]; rfl
  have hr : (busReset s).cpu.halted = false := by rw [busReset_eq]; rfl
  have hf : (busReset s).ppu.fb = s.ppu.fb := by rw [busReset_eq]; rfl
  obtain ⟨t, run, only, kept, maps, scanline, dot, -, -⟩ := start.run hd hr (n := 21) rfl
  have same : SameMemory (busReset s) { t with ppu := { t.ppu with fb := s.ppu.fb } } := by
    have ram : t.ram = (busReset s).ram := by rw [only]
    have mapperRam : t.mapperRam = (busReset s).mapperRam := by rw [only]
    have cart : t.cart = (busReset s).cart := by rw [only]
    refine ⟨fun a ha => ?_, ram, mapperRam, cart, kept.nt, kept.pal, kept.chrRam, kept.oam, hf.symm⟩
    rw [busPeek_setPpu t _ ha, only]
    exact (busPeek_setPpu { busReset s with mapper := t.mapper } t.ppu ha).trans (busPeek_setMapper _ maps ha)
  refine ⟨t, run, by rw [only], by rw [only], scanline, dot, by rw [only]; exact hd, same⟩

end Sys2Proof.Machine
end

section
/-! PROOF. AHX, SHY, SHX and TAS (R268 to R272; decision D15 of the spec): `UnstableStore`, said once. -/

namespace Sys2Proof.Machine

open Sys2Proof

/-- An instruction that changes the CPU by `put` and then stores `reg`, taken from the registers before that. -/
theorem unstableStore_completes {i : Instr} {m : Mnemonic} (h : i.mnem = m) (put : Cpu → Cpu) (reg : Cpu → Byte) {s : State}
    (hs : s.Inv) (hm : .IND ∉ m.modes)
    (hop : operate m = fun o n => runInstr n false o fun u r => unstableStore { u with cpu := put u.cpu } (reg u.cpu) r) :
    let r := (operandAt i s).1
    let v := reg { s.cpu with cyc := i.baseCycles } &&& (r.baseHi + 1#8)
    ∃ t, exec i s = .next t ∧ Stored s t (if r.crossed then cat v (lo r.ea) else r.ea) v ∧
      t.cpu = put { s.cpu with cyc := i.baseCycles } := by
  intro r v
  have he := exec_of_mnem h s
  have resolved : (resolve (s.setCyc i.baseCycles) i.operand).2 = s.setCyc i.baseCycles :=
    operandAt_snd (Instr.mode_ne_of_mnem h hm) s
  let before : State := { s with cpu := put { s.cpu with cyc := i.baseCycles } }
  have run : operate m i.operand i.baseCycles s =
      (busWrite before (if r.crossed then cat v (lo r.ea) else r.ea) v).addCyc 0 := by
    rw [hop]
    dsimp only [runInstr]
    rw [resolved, Bool.and_false]
    rfl
  rw [run] at he
  have outside : SameOutsideCpu s before := rfl
  exact ⟨_, he, stored_of_same outside (sameOutsideCpu_setCyc _ _) hs.ram.1 hs.mapperRam.1,
    congrArg (fun c : Cpu => { c with cyc := c.cyc + 0 }) (busWrite_cpu _ _ _)⟩

/-- Settles O23: each is `unstableStore_completes` with its own byte; TAS alone changes a register. -/
theorem unstableStores : Obligations.UnstableStores := fun _ _ hs =>
  ⟨fun h => unstableStore_completes h id (fun c => c.a &&& c.x) hs (by decide) rfl,
    fun h => unstableStore_completes h id (·.y) hs (by decide) rfl,
    fun h => unstableStore_completes h id (·.x) hs (by decide) rfl,
    fun h => unstableStore_completes h (fun c => { c with sp := c.a &&& c.x }) (fun c => c.a &&& c.x) hs (by decide) rfl⟩

end Sys2Proof.Machine
end

section
/-! PROOF. A sprite DMA transfer (R390, R391, R393; decision D11 of the spec): a slot or two of waiting, then 256 pairs of a read
slot and a write slot. -/

namespace Sys2Proof.Machine

open Sys2Proof

/-! ### One byte -/

/-- A read slot and the write slot after it. -/
def dmaPair (s : State) : State := dmaSlot^[2] s

/-- A pair reads one byte and writes it to OAM; after offset 0xFF the engine rests. -/
theorem dmaPair_eq {s : State} (hd : s.dma.dummy = false) (ht : s.tick % 2 = 0) :
    let r := busRead s s.dma.source
    let last := decide (s.dma.off + 1#8 = 0#8)
    dmaPair s = { r.2 with
      ppu := { r.2.ppu with oam := r.2.ppu.oam.write s.dma.off.toNat r.1 }
      dma := { s.dma with data := r.1, off := s.dma.off + 1#8, active := !last, dummy := last }
      tick := s.tick + 6 } := by
  intro r last
  have left := busRead_left s s.dma.source
  have odd : (s.tick + 3) % 2 = 1 := by omega
  have read : dmaSlot s = { r.2 with dma := { s.dma with data := r.1 }, tick := s.tick + 3 } := by
    rw [dmaSlot, dmaStep, hd, if_neg Bool.false_ne_true, if_pos ht, dmaReadSlot, left.dma]
  rw [dmaPair, Function.iterate_succ_apply, Function.iterate_one, read, dmaSlot, dmaStep]
  simp only [hd, odd, Bool.false_eq_true, if_false, one_ne_zero]
  rfl

/-! ### The page -/

/-- `t` is `u` after `n` bytes of the transfer that `u` is about to start. -/
structure Copied (u : State) (n : Nat) (t : State) : Prop where
  dma : t.dma = { u.dma with
    data := t.dma.data, off := BitVec.ofNat 8 n, dummy := decide (n = 256), active := decide (n ≠ 256) }
  tick : t.tick = u.tick + 6 * n
  cpu : t.cpu = u.cpu
  ram : t.ram = u.ram
  mapperRam : t.mapperRam = u.mapperRam
  cart : t.cart = u.cart

/-- From a page without ports the bytes are those that a query sees, and nothing but OAM and the engine changes. -/
structure CopiedPure (u : State) (n : Nat) (t : State) : Prop where
  only : t = { u with ppu := { u.ppu with oam := t.ppu.oam }, dma := t.dma, tick := t.tick }
  wf : t.ppu.oam.wf = true
  bytes : ∀ o : Byte, o.toNat < n → t.ppu.oam.read o.toNat = busPeek u (cat u.dma.page o)

section
variable {u t : State} {n : Nat} (h : Copied u n t) (hu : u.tick % 2 = 0) (hn : n < 256)
include h hu hn

/-- The pair number `n`, in a transfer under way. -/
theorem Copied.pair_eq :
    let r := busRead t (cat u.dma.page (BitVec.ofNat 8 n))
    dmaPair t = { r.2 with
      ppu := { r.2.ppu with oam := r.2.ppu.oam.write n r.1 }
      dma := { u.dma with
        data := r.1, off := BitVec.ofNat 8 (n + 1), dummy := decide (n + 1 = 256), active := decide (n + 1 ≠ 256) }
      tick := u.tick + 6 * (n + 1) } := by
  have off : (BitVec.ofNat 8 n).toNat = n := by
    rw [BitVec.toNat_ofNat]
    omega
  have next : BitVec.ofNat 8 n + 1#8 = BitVec.ofNat 8 (n + 1) := (BitVec.ofNat_add_ofNat ..)
  have last : (BitVec.ofNat 8 (n + 1) = 0#8) = (n + 1 = 256) := by
    rw [← BitVec.toNat_inj, BitVec.toNat_ofNat, eq_iff_iff]
    simp only [BitVec.toNat_ofNat]
    omega
  have running : decide (n = 256) = false := decide_eq_false (by omega)
  have waiting : t.dma.dummy = false := by rw [h.dma, running]
  have even : t.tick % 2 = 0 := by
    rw [h.tick]
    omega
  have pair := dmaPair_eq waiting even
  rw [Dma.source, h.dma, h.tick] at pair
  simp only [off, next, last] at pair
  rw [pair, decide_not]
  rfl

theorem Copied.succ : Copied u (n + 1) (dmaPair t) := by
  have left := busRead_left t (cat u.dma.page (BitVec.ofNat 8 n))
  rw [h.pair_eq hu hn]
  exact ⟨rfl, rfl, left.cpu.trans h.cpu, left.ram.trans h.ram, left.mapperRam.trans h.mapperRam, left.cart.trans h.cart⟩

theorem CopiedPure.succ (hp : CopiedPure u n t) (hd : ∀ o : Byte, isDevice (cat u.dma.page o) = false) :
    CopiedPure u (n + 1) (dmaPair t) := by
  have same (o : Byte) : busPeek t (cat u.dma.page o) = busPeek u (cat u.dma.page o) := by
    rw [hp.only]
    exact busPeek_setPpu u _ (hd o)
  rw [h.pair_eq hu hn, busRead_eq_peek t (hd _), same]
  refine ⟨by rw [hp.only], Mem.write_wf hp.wf _ _, fun o ho => ?_⟩
  rw [Mem.read_write hp.wf]
  split
  · rename_i e
    rw [← e, BitVec.ofNat_toNat, BitVec.setWidth_eq]
  · exact hp.bytes o (by omega)

end

theorem copied_iterate {u : State} (hd : u.dma.dummy = false) (ha : u.dma.active = true) (ho : u.dma.off = 0#8)
    (hu : u.tick % 2 = 0) {n : Nat} (hn : n ≤ 256) : Copied u n (dmaPair^[n] u) := by
  induction n with
  | zero =>
    refine ⟨?_, rfl, rfl, rfl, rfl, rfl⟩
    show u.dma = { u.dma with off := 0#8, dummy := false, active := true }
    rw [← ho, ← hd, ← ha]
  | succ n ih =>
    rw [Function.iterate_succ_apply']
    exact (ih (by omega)).succ hu (by omega)

theorem copiedPure_iterate {u : State} (hd : u.dma.dummy = false) (ha : u.dma.active = true) (ho : u.dma.off = 0#8)
    (hu : u.tick % 2 = 0) (hw : u.ppu.oam.wf = true) (hp : ∀ o : Byte, isDevice (cat u.dma.page o) = false) {n : Nat}
    (hn : n ≤ 256) : CopiedPure u n (dmaPair^[n] u) := by
  induction n with
  | zero => exact ⟨rfl, hw, fun _ h => absurd h (Nat.not_lt_zero _)⟩
  | succ n ih =>
    rw [Function.iterate_succ_apply']
    exact CopiedPure.succ (copied_iterate hd ha ho hu (by omega)) hu (by omega) (ih (by omega)) hp

/-! ### The whole transfer -/

/-- The engine after its wait, `k` ticks later. -/
def dmaStarted (s : State) (k : Nat) : State := { s with dma := { s.dma with dummy := false }, tick := s.tick + k }

/-- The transfer is a wait of one slot or two, to an even tick, and then 256 pairs. -/
theorem dmaSlots_eq {s : State} (hd : s.dma.dummy = true) : dmaSlot^[if s.tick % 2 = 1 then 513 else 514] s =
    dmaPair^[256] (dmaStarted s (if s.tick % 2 = 1 then 3 else 6)) := by
  have pairs : dmaPair^[256] = dmaSlot^[2 * 256] := (Function.iterate_mul dmaSlot 2 256).symm
  have odd {u : State} (hu : u.dma.dummy = true) (ht : u.tick % 2 = 1) : dmaSlot u = dmaStarted u 3 := by
    rw [dmaSlot, dmaStep, if_pos hu, if_pos ht]
    rfl
  rw [pairs]
  by_cases ht : s.tick % 2 = 1
  · rw [if_pos ht, if_pos ht, ← odd hd ht]
    exact Function.iterate_succ_apply dmaSlot 512 s
  · have even : dmaSlot s = { s with tick := s.tick + 3 } := by rw [dmaSlot, dmaStep, if_pos hd, if_neg ht]
    have started : dmaStarted s 6 = dmaSlot (dmaSlot s) := by
      rw [even, odd (u := { s with tick := s.tick + 3 }) hd (by simp only; omega)]
      rfl
    rw [if_neg ht, if_neg ht, started, ← Function.iterate_succ_apply, ← Function.iterate_succ_apply]

/-- Settles O55: the wait (`dmaSlots_eq`), then the page byte by byte. -/
theorem dmaCopiesAPage : Obligations.DmaCopiesAPage := by
  intro s hs ha hd ho slots t
  let k := if s.tick % 2 = 1 then 3 else 6
  let u := dmaStarted s k
  have even : u.tick % 2 = 0 := by
    show (s.tick + k) % 2 = 0
    dsimp only [k]
    split_ifs <;> omega
  have ht : t = dmaPair^[256] u := dmaSlots_eq hd
  have waited : u.dma.dummy = false := rfl
  have copied : Copied u 256 t := ht ▸ copied_iterate waited ha ho even (le_refl _)
  refine ⟨⟨?_, copied.cpu, ?_, copied.ram, copied.mapperRam, copied.cart⟩, fun hp => ?_⟩
  · refine copied.dma.trans ?_
    show ({ s.dma with data := t.dma.data, off := 0#8, dummy := true, active := false } : Dma) = _
    rw [← ho]
  · refine copied.tick.trans ?_
    show s.tick + k + 6 * 256 = s.tick + 3 * slots
    dsimp only [k, slots]
    split_ifs <;> omega
  · have pure : CopiedPure u 256 t := ht ▸ copiedPure_iterate waited ha ho even hs.ppu.oam.1 hp (le_refl _)
    exact ⟨fun o => pure.bytes o o.isLt, pure.only⟩

end Sys2Proof.Machine
end
